-- ==== Sys2Proof/Word.lean ====
section
/-! DEFINITION. The words of the block: the command word, device bytes, the 16-bit ports, pin
identifiers and wire levels (00_scope R9, R12, R14; 30_encoding R65, R72, R78). -/

namespace Sys2Proof

/-- A command word, 32 bits, bit 0 the least significant (30 R65). -/
abbrev Word := BitVec 32

/-- A device byte, a character or a ROM byte: 8 bits unsigned (00 R12). -/
abbrev Byte := BitVec 8

/-- The event port and the result port: 16 bits (20 R57). -/
abbrev Port := BitVec 16

/-- A pin identifier; the parameter `PinId` at its default, an 8-bit value (00 R9, D39). -/
abbrev PinId := BitVec 8

/-- A logic level, `false` for 0 (low) and `true` for 1 (high) (00 R14). -/
abbrev Level := Bool

end Sys2Proof
end

