-- ==== Sys2Proof/Config.lean ====
section
/-! DEFINITION. The configuration of the block as plain data (00_scope R9), the entries of the base
table (30_encoding R75), and the values the spec leaves free. -/

namespace Sys2Proof

/-- The two modifiers of the Translator (10 R36). -/
inductive Modifier where
  | shift
  | ctrl
deriving DecidableEq, Repr

/-- The four forms of a base-table entry, `Mod(SHIFT)` and `Mod(CTRL)` as one (30 R75). -/
inductive Entry where
  | undef
  | char (c : Byte)
  | modifier (m : Modifier)
deriving DecidableEq, Repr

/-- The configuration the model takes as an argument (00 R9). `BASE_LEN` and `SHIFT_LEN` are the
lengths of the two tables. `BASE_TABLE` holds ROM bytes, so that a reserved encoding can be written
and refused (30 R75). `SHIFT_INDEX`, a function of an 8-bit character, is the table of its 256
values, so that the configuration is plain data. DESIGN CHOICE (log 1), safe. -/
structure Config where
  /-- `EXTEND_OFFSET`. -/
  extendOffset : Int
  /-- `NO_KEY`, the no-key sentinel on the result port. -/
  noKey : Port
  /-- `BASE_TABLE`, as ROM bytes. -/
  baseTable : List Byte
  /-- `SHIFT_TABLE`. -/
  shiftTable : List Byte
  /-- `SHIFT_INDEX`, value by value. -/
  shiftIndex : Vector Int 256
  /-- `LCTRL_CODE`. -/
  lctrlCode : Byte
  /-- `ENTER_CODE`. -/
  enterCode : Byte
deriving DecidableEq, Repr

/-- `BASE_LEN`. -/
def Config.baseLen (c : Config) : Nat := c.baseTable.length

/-- `SHIFT_LEN`. -/
def Config.shiftLen (c : Config) : Nat := c.shiftTable.length

/-- `RCTRL_EXT = LCTRL_CODE + EXTEND_OFFSET` (00 R9). -/
def Config.rctrlExt (c : Config) : Int := (c.lctrlCode.toNat : Int) + c.extendOffset

/-- `KPENTER_EXT = ENTER_CODE + EXTEND_OFFSET` (00 R9). -/
def Config.kpenterExt (c : Config) : Int := (c.enterCode.toNat : Int) + c.extendOffset

/-- `WR_DELAY_US` is OPEN: a free value on which nothing depends (00 R9, D17; log 6). -/
opaque Config.wrDelayUs : Nat

/-- The Device's clock drive at the first launch, any value (10 R40; log 4): a free value. -/
opaque Config.launchDevClk : Level

/-- The Device's data drive at the first launch, any value (10 R40; log 4): a free value. -/
opaque Config.launchDevDat : Level

end Sys2Proof
end

