-- ==== Sys2Proof/Syntax.lean ====
section
/-! DEFINITION. The four commands of the block (30_encoding R66, R88). -/

namespace Sys2Proof

/-- One constructor per row of the opcode map (30 R88), with the operands of 30 R89. -/
inductive Instr where
  /-- INIT `clk`, `dat`: bind the two pins (40 R95). -/
  | init (clk dat : PinId)
  /-- RDEV: read one key event (40 R104). -/
  | rdev
  /-- WRB `code`: send one byte to the device (40 R105). -/
  | wrb (code : Byte)
  /-- XLAT `ev`: translate one key event, an integer (41 R130). -/
  | xlat (ev : Int)
deriving DecidableEq, Repr

/-- The name of a command, as a completion record carries it (10 R42). -/
inductive Command where
  | init
  | rdev
  | wrb
  | xlat
deriving DecidableEq, Repr

/-- The name of an instruction. -/
def Instr.command : Instr → Command
  | .init _ _ => .init
  | .rdev => .rdev
  | .wrb _ => .wrb
  | .xlat _ => .xlat

end Sys2Proof
end

