-- ==== Sys2Proof/WellFormed.lean ====
section
/-! DEFINITION. Which instruction terms have an encoding. A pin, a byte and the absence of an operand
are right by their types; the event of an XLAT is an integer and must fit the 16-bit event port
(30_encoding R72, R89). -/

namespace Sys2Proof

/-- The event of an XLAT fits the port: -32768 to 32767 (30 R72). -/
def eventInRange (ev : Int) : Bool := decide (-32768 ≤ ev) && decide (ev ≤ 32767)

/-- An instruction has an encoding. INIT with two equal pins is well formed: it is a word of the
opcode map, and its acceptance faults (30 R67, R82). -/
def Instr.wellFormed : Instr → Bool
  | .init _ _ => true
  | .rdev => true
  | .wrb _ => true
  | .xlat ev => eventInRange ev

end Sys2Proof
end

