-- ==== Sys2Proof/Decode.lean ====
section
/-! DEFINITION. The encodings of spec/30_encoding.md: the command word, its decoder and, after it, its
encoder; the ROM byte of a base-table entry; the lead-in sequences of device bytes; the assembler
line. -/

namespace Sys2Proof

/-! ### The fields of a command word (R65, R67, R69) -/

/-- `OP = w[31:29]`. -/
def opField (w : Word) : BitVec 3 := w.extractLsb' 29 3

/-- `RES = w[28:16]`. -/
def resField (w : Word) : BitVec 13 := w.extractLsb' 16 13

/-- `ARG = w[15:0]`. -/
def argField (w : Word) : Port := w.extractLsb' 0 16

/-- `ARG[15:8]`. -/
def argHigh (w : Word) : Byte := w.extractLsb' 8 8

/-- `ARG[7:0]`. -/
def argLow (w : Word) : Byte := w.extractLsb' 0 8

/-- `sext_16` of a port value, as an integer (R72). -/
def portToEvent (p : Port) : Int := p.toInt

/-- `ev mod 2^16`, the port value of an event (R72). -/
def eventToPort (ev : Int) : Port := BitVec.ofInt 16 ev

/-! ### Decoding -/

/-- Why a word spells no command. -/
inductive DecodeError where
  /-- `OP` in 100..111 (R81). -/
  | reservedOp
  /-- A nonzero reserved field (R82). -/
  | reservedField
deriving DecidableEq, Repr

/-- The command a word spells, or why it spells none: `OP` is checked first, then the reserved fields
(R66, R81, R82; 40 R92 checks 2 and 3). Two equal pins are decoded; their fault is acceptance's
fourth check. -/
def decode (w : Word) : Except DecodeError Instr :=
  if 4 ≤ (opField w).toNat then .error .reservedOp
  else if resField w ≠ 0 then .error .reservedField
  else match (opField w).toNat with
    | 0 => .ok (.init (argHigh w) (argLow w))
    | 1 => if argField w ≠ 0 then .error .reservedField else .ok .rdev
    | 2 => if argHigh w ≠ 0 then .error .reservedField else .ok (.wrb (argLow w))
    | _ => .ok (.xlat (portToEvent (argField w)))

/-! ### Encoding (R85, R88, R89) -/

/-- A command word from its fields, `RES` 0. -/
def packWord (op : BitVec 3) (arg : Port) : Word := op ++ (0#13 ++ arg)

/-- The word of an instruction (R66 to R69, R77). -/
def encode : Instr → Word
  | .init clk dat => packWord 0 (clk ++ dat)
  | .rdev => packWord 1 0
  | .wrb code => packWord 2 (0#8 ++ code)
  | .xlat ev => packWord 3 (eventToPort ev)

/-- One row of the opcode map: a word matches when `word & mask = match` (R88). -/
structure OpcodeRow where
  command : Command
  matchBits : Word
  mask : Word
deriving DecidableEq, Repr

/-- The opcode map of R88. -/
def opcodeMap : List OpcodeRow :=
  [ ⟨.init, 0x00000000, 0xFFFF0000⟩
  , ⟨.rdev, 0x20000000, 0xFFFFFFFF⟩
  , ⟨.wrb,  0x40000000, 0xFFFFFF00⟩
  , ⟨.xlat, 0x60000000, 0xFFFF0000⟩ ]

/-- A word matches a row (R88). -/
def OpcodeRow.hits (r : OpcodeRow) (w : Word) : Bool := w &&& r.mask == r.matchBits

/-- The instruction the decoder reads from the table's numbering of bits. A command word is 32 bits
and is taken whole (20 R58), so bit i of the number is bit i of the word; bits above 31 must be 0. -/
def decodeTableWord (nbits w : Nat) : Option Instr :=
  if 2 ^ 32 ≤ w % 2 ^ nbits then none
  else match decode (BitVec.ofNat 32 (w % 2 ^ nbits)) with
    | .ok i => some i
    | .error _ => none

/-! ### ROM bytes (R75) -/

/-- The entry a ROM byte encodes, or none for a reserved byte. -/
def Entry.ofRom (b : Byte) : Option Entry :=
  if b = 0x00 then some .undef
  else if b.toNat ≤ 0x7F then some (.char b)
  else if b = 0x81 then some (.modifier .shift)
  else if b = 0x82 then some (.modifier .ctrl)
  else none

/-- The ROM byte of an entry. -/
def Entry.toRom : Entry → Byte
  | .undef => 0x00
  | .char c => c
  | .modifier .shift => 0x81
  | .modifier .ctrl => 0x82

/-! ### Key events and lead-in sequences (R70, R79, R80) -/

/-- The event of a plain press. -/
def plainPress (b : Byte) : Int := b.toNat

/-- The event of a plain release. -/
def plainRelease (b : Byte) : Int := -(b.toNat : Int)

/-- The event of an extended press. -/
def extendedPress (cfg : Config) (b : Byte) : Int := (b.toNat : Int) + cfg.extendOffset

/-- The event of an extended release. -/
def extendedRelease (cfg : Config) (b : Byte) : Int := -((b.toNat : Int) + cfg.extendOffset)

/-- The release lead-in. -/
def leadF0 : Byte := 0xF0

/-- The extended lead-in. -/
def leadE0 : Byte := 0xE0

/-- The event the first bytes spell and the bytes left over; none when a sequence is not complete. The
first matching alternative of R79 applies and the final byte is never examined (R80, R84). -/
def decodeSeq (cfg : Config) : List Byte → Option (Int × List Byte)
  | [] => none
  | b :: rest =>
    if b = leadF0 then
      match rest with
      | [] => none
      | c :: rest => some (plainRelease c, rest)
    else if b = leadE0 then
      match rest with
      | [] => none
      | c :: rest =>
        if c = leadF0 then
          match rest with
          | [] => none
          | d :: rest => some (extendedRelease cfg d, rest)
        else some (extendedPress cfg c, rest)
    else some (plainPress b, rest)

/-- The set of values RDEV can produce (R71). -/
def isRdevEvent (cfg : Config) (ev : Int) : Prop :=
  (∃ b : Byte, b ≠ leadE0 ∧ b ≠ leadF0 ∧ ev = plainPress b) ∨
  (∃ b : Byte, ev = plainRelease b) ∨
  (∃ b : Byte, b ≠ leadF0 ∧ ev = extendedPress cfg b) ∨
  (∃ b : Byte, ev = extendedRelease cfg b)

/-! ### The assembler line (R85), on a list of characters -/

/-- The rest of a line after a prefix. -/
def stripPrefix : List Char → List Char → Option (List Char)
  | [], cs => some cs
  | _ :: _, [] => none
  | p :: ps, c :: cs => if p = c then stripPrefix ps cs else none

/-- The value of a digit, hexadecimal digits in either case. -/
def digitValue (c : Char) : Option Nat :=
  if 48 ≤ c.toNat ∧ c.toNat ≤ 57 then some (c.toNat - 48)
  else if 65 ≤ c.toNat ∧ c.toNat ≤ 70 then some (c.toNat - 55)
  else if 97 ≤ c.toNat ∧ c.toNat ≤ 102 then some (c.toNat - 87)
  else none

/-- Digits in a base, continuing from an accumulator. -/
def digitsFrom (base acc : Nat) : List Char → Option Nat
  | [] => some acc
  | c :: cs =>
    match digitValue c with
    | some d => if d < base then digitsFrom base (acc * base + d) cs else none
    | none => none

/-- A decimal or `0x` hexadecimal literal. -/
def literal (cs : List Char) : Option Nat :=
  match stripPrefix ['0', 'x'] cs with
  | some [] => none
  | some ds => digitsFrom 16 0 ds
  | none => if cs.isEmpty then none else digitsFrom 10 0 cs

/-- A literal that may carry a leading minus sign. -/
def signedLiteral (cs : List Char) : Option Int :=
  match stripPrefix ['-'] cs with
  | some ds => (literal ds).map fun n => -(n : Int)
  | none => (literal cs).map fun n => (n : Int)

/-- An 8-bit literal. -/
def byteLiteral (cs : List Char) : Option Byte :=
  (literal cs).bind fun n => if n < 256 then some (BitVec.ofNat 8 n) else none

/-- The two operands of INIT, separated by a comma and a space. -/
def pinPair : List Char → List Char → Option (Byte × Byte)
  | _, [] => none
  | seen, ',' :: ' ' :: cs =>
    (byteLiteral seen.reverse).bind fun a => (byteLiteral cs).map fun b => (a, b)
  | seen, c :: cs => pinPair (c :: seen) cs

/-- The command word of one assembler line (R85); the layout of blanks is fixed by log 14. -/
def assemble (line : List Char) : Option Word :=
  if line = ['R', 'D', 'E', 'V'] then some (encode .rdev)
  else match stripPrefix ['I', 'N', 'I', 'T', ' '] line with
    | some cs => (pinPair [] cs).map fun p => encode (.init p.1 p.2)
    | none =>
      match stripPrefix ['W', 'R', 'B', ' '] line with
      | some cs => (byteLiteral cs).map fun b => encode (.wrb b)
      | none =>
        match stripPrefix ['X', 'L', 'A', 'T', ' '] line with
        | some cs => (signedLiteral cs).map fun ev => encode (.xlat ev)
        | none => none

end Sys2Proof
end

