-- ==== Sys2Proof/Machine/Tables.lean ====
section
/-! DEFINITION. Which configurations are well formed (00_scope R10) and the default configuration
(00_scope R9; 41_translator R147, R149, R150). -/

namespace Sys2Proof

/-- Every condition of R10, in its order. A configuration that breaks one is refused (60 R175). -/
def Config.wf (c : Config) : Bool :=
  decide (256 ≤ c.extendOffset) && decide (c.extendOffset ≤ 32512)
    && decide (1 ≤ c.baseLen) && decide (c.baseLen ≤ 256)
    && decide (0x00FF < c.noKey.toNat)
    && c.baseTable.all (fun b => (Entry.ofRom b).isSome)
    && decide (1 ≤ c.shiftLen)
    && c.shiftTable.all (fun b => decide (b.toNat ≤ 0x7F))
    && decide (c.lctrlCode.toNat < c.baseLen) && decide (c.enterCode.toNat < c.baseLen)

/-- The defined entries of the default base table: device code and ROM byte (R147, R75). -/
def defaultBaseRows : List (Nat × Byte) :=
  [(0x0D, 0x09), (0x0E, 0x60), (0x12, 0x81), (0x14, 0x82), (0x15, 0x71), (0x16, 0x31)] ++
  [(0x1A, 0x7A), (0x1B, 0x73), (0x1C, 0x61), (0x1D, 0x77), (0x1E, 0x32), (0x21, 0x63)] ++
  [(0x22, 0x78), (0x23, 0x64), (0x24, 0x65), (0x25, 0x34), (0x26, 0x33), (0x29, 0x20)] ++
  [(0x2A, 0x76), (0x2B, 0x66), (0x2C, 0x74), (0x2D, 0x72), (0x2E, 0x35), (0x31, 0x6E)] ++
  [(0x32, 0x62), (0x33, 0x68), (0x34, 0x67), (0x35, 0x79), (0x36, 0x36), (0x3A, 0x6D)] ++
  [(0x3B, 0x6A), (0x3C, 0x75), (0x3D, 0x37), (0x3E, 0x38), (0x41, 0x2C), (0x42, 0x6B)] ++
  [(0x43, 0x69), (0x44, 0x6F), (0x45, 0x30), (0x46, 0x39), (0x49, 0x2E), (0x4A, 0x2F)] ++
  [(0x4B, 0x6C), (0x4C, 0x3B), (0x4D, 0x70), (0x4E, 0x2D), (0x52, 0x27), (0x54, 0x5B)] ++
  [(0x55, 0x3D), (0x59, 0x81), (0x5A, 0x0D), (0x5B, 0x5D), (0x5D, 0x5C), (0x66, 0x08)] ++
  [(0x69, 0x31), (0x6B, 0x34), (0x6C, 0x37), (0x70, 0x30), (0x71, 0x2E), (0x72, 0x32)] ++
  [(0x73, 0x35), (0x74, 0x36), (0x75, 0x38), (0x76, 0x1B), (0x79, 0x2B), (0x7A, 0x33)] ++
  [(0x7B, 0x2D), (0x7C, 0x2A), (0x7D, 0x39)]

/-- The default `BASE_TABLE`, 128 entries; a code that R147 does not list is `Undef`. -/
def defaultBaseTable : List Byte :=
  (List.range 128).map fun code => (defaultBaseRows.lookup code).getD 0x00

/-- The default `SHIFT_INDEX` of a character's value (R149). -/
def defaultShiftIndex (c : Nat) : Int := (if 0x5B ≤ c then (c : Int) - 0x1D else (c : Int)) - 0x27

/-- A function of an 8-bit character as the table of its values. -/
def tabulate (f : Nat → Int) : Vector Int 256 :=
  ⟨⟨(List.range 256).map f⟩, by rw [List.size_toArray, List.length_map, List.length_range]⟩

/-- The default `SHIFT_TABLE`, indices 0 to 28 (R150). -/
def defaultShiftTable : List Byte :=
  [0x22, 0x28, 0x29, 0x2A, 0x2B, 0x3C, 0x5F, 0x3E] ++
  [0x3F, 0x29, 0x21, 0x40, 0x23, 0x24, 0x25, 0x5E] ++
  [0x26, 0x2A, 0x28, 0x3A, 0x3A, 0x3C, 0x2B, 0x7B] ++
  [0x7C, 0x7D, 0x5E, 0x5F, 0x7E]

/-- The default configuration (00 R9). -/
def Config.default : Config where
  extendOffset := 256
  noKey := 0xFFFF
  baseTable := defaultBaseTable
  shiftTable := defaultShiftTable
  shiftIndex := tabulate defaultShiftIndex
  lctrlCode := 0x14
  enterCode := 0x5A

end Sys2Proof
end

