-- ==== Sys2Proof/Machine/State.lean ====
section
/-! DEFINITION. The state of the block as plain data (10_state R21 to R42, R44), the reasons a step can
stop, and the state right after reset. -/

namespace Sys2Proof.Machine

/-- The host's configuration of the clock pin (R24). It has no value that drives the line high (R27). -/
inductive ClkCtl where
  | unconf
  | driveLow
  | release
deriving DecidableEq, Repr

/-- The host's configuration of the data pin (R25). -/
inductive DatCtl where
  | unconf
  | inputPullup
  | output
deriving DecidableEq, Repr

/-- The phases of the Engine's sequencer (R30). -/
inductive Phase where
  | idle
  | reRel
  | rrS0 | rrS1 | rrB0 | rrBS | rrB1 | rrP0 | rrP1 | rrT0 | rrT1
  | reInh
  | wrRts | wrRelc | wrS0 | wrPut | wrB1 | wrB0 | wrPar | wrP1 | wrP0 | wrReld | wrDly | wrAck | wrInh
deriving DecidableEq, Repr

/-- Which lead-ins of the current event have been read (R35). -/
inductive RdStage where
  | first
  | afterF0
  | afterE0
  | afterE0F0
deriving DecidableEq, Repr

/-- The fault codes (60 R162). -/
inductive FaultCode where
  /-- RDEV or WRB before INIT. -/
  | notInit
  /-- `OP` in 100..111. -/
  | reservedOp
  /-- A nonzero reserved field. -/
  | reservedField
  /-- A command word issued while another command is in progress. -/
  | busy
  /-- The host drives data high against a Device that pulls it low. -/
  | contention
  /-- INIT with two equal pins. -/
  | samePin
  /-- INIT on another pin pair while configured. -/
  | rebind
deriving DecidableEq, Repr

/-- The number of a fault code (60 R162). -/
def FaultCode.number : FaultCode → Nat
  | .notInit => 1
  | .reservedOp => 2
  | .reservedField => 3
  | .busy => 4
  | .contention => 5
  | .samePin => 6
  | .rebind => 7

/-- A Translator result (30 R78). -/
inductive Result where
  | noKey
  | char (c : Byte)
deriving DecidableEq, Repr

/-- The value of a completion record (R42). -/
inductive Value where
  | none
  | event (ev : Int)
  | result (r : Result)
deriving DecidableEq, Repr

/-- A completion record (R42). -/
structure Record where
  command : Command
  value : Value
deriving DecidableEq, Repr

/-- One choice of the free scheduler (00 R3, 20 R61), or a reset from outside (70 R180). -/
inductive Move where
  /-- The Engine is given a step. -/
  | engine
  /-- The Device takes the step `DEV(c, d)` (40 R117). -/
  | device (c d : Level)
  /-- The Caller issues a command word (40 R92). -/
  | caller (w : Word)
  /-- Reset (70 R180). -/
  | reset
deriving DecidableEq, Repr

/-- The state: the Engine's elements (R22 to R35), the Translator's flags (R36), the Device's drives
(R40), the fault mark (R41), the history (R42), the refusal mark (R21), the configuration, which no
step changes (00 R9), and the schedule, the model's own field: the moves still to be taken, the next
one first (log 2). -/
structure State where
  cfgValid : Bool
  clkPin : PinId
  datPin : PinId
  clkCtl : ClkCtl
  datCtl : DatCtl
  datOut : Level
  phase : Phase
  bitIdx : BitVec 4
  shreg : Byte
  ones : BitVec 4
  rdStage : RdStage
  ev : Int
  modShift : Bool
  modCtrl : Bool
  devClk : Level
  devDat : Level
  fault : Option FaultCode
  hist : List Record
  refused : Bool
  cfg : Config
  sched : List Move
deriving DecidableEq, Repr

/-- Why the machine stops. -/
inductive Fault where
  /-- Raised by a step of any agent, and by `exec`, in a state whose fault mark is set: no agent has a
  step until a reset (60 R164). Safe: the spec gives no step here. The step that RAISES a fault is a
  next state with the mark written (60 R160). -/
  | halted (code : FaultCode)
deriving DecidableEq, Repr

/-- Why an instruction is not run. -/
inductive Refusal where
  /-- Raised by `exec` for an instruction without a meaning; no arm raises it. Safe. -/
  | notModelled (mnemonic : String)
  /-- Raised by a step of any agent, and by `exec`, in a refused launch: no agent has a step (60 R175).
  XLAT raises it also where the table holds a reserved ROM byte though the mark is clear, which is no
  launch (log 8). Safe. -/
  | illFormedConfiguration
deriving DecidableEq, Repr

/-- The launch of a configuration with the Device at given drives (10 R44, 60 R175). The pins,
`datOut`, `bitIdx`, `shreg`, `ones`, `rdStage` and `ev` have no value in the spec: DESIGN CHOICE
(log 5), unsafe. -/
def State.launch (cfg : Config) (devClk devDat : Level) : State where
  cfgValid := false
  clkPin := 0
  datPin := 0
  clkCtl := .unconf
  datCtl := .unconf
  datOut := false
  phase := .idle
  bitIdx := 0
  shreg := 0
  ones := 0
  rdStage := .first
  ev := 0
  modShift := false
  modCtrl := false
  devClk := devClk
  devDat := devDat
  fault := none
  hist := []
  refused := !cfg.wf
  cfg := cfg
  sched := []

/-- The state after reset: the launch of the default configuration, with the Device's drives the free
values of log 4. The default configuration is well formed, so its launch is not refused: the mark is
written out, and `State.reset_eq_launch` (Laws/State.lean) says that this is the launch itself. -/
def State.reset : State :=
  { State.launch Config.default Config.launchDevClk Config.launchDevDat with refused := false }

end Sys2Proof.Machine
end

