-- ==== Sys2Proof/Machine/Ops.lean ====
section
/-! DEFINITION. The named operations over the state: wires and samples (20_memory R49 to R53), pin
actions (20 R52, 60 R171), completion (40 R94), raising a fault and the reset that leaves it (60 R160,
R164; 70 R180), and the acceptance of a command (40 R92). -/

namespace Sys2Proof.Machine

/-! ### Wires (20 R49, R51) -/

/-- The host side of CLK. -/
def State.hostClk (s : State) : Level :=
  match s.clkCtl with
  | .driveLow => false
  | .release => true
  | .unconf => true

/-- The host side of DAT. -/
def State.hostDat (s : State) : Level :=
  match s.datCtl with
  | .output => s.datOut
  | .inputPullup => true
  | .unconf => true

/-- `Wire(CLK)`. -/
def State.wireClk (s : State) : Level := s.hostClk && s.devClk

/-- `Wire(DAT)`. -/
def State.wireDat (s : State) : Level := s.hostDat && s.devDat

/-- The condition of contention: the host drives data high and the Device pulls it low (20 R53). -/
def State.contended (s : State) : Bool := s.datCtl == .output && s.datOut && !s.devDat

/-- `busy` is `phase ≠ IDLE` (10 R31). -/
def State.busy (s : State) : Bool := s.phase != .idle

/-! ### Pin actions (20 R52, 40 R128, 60 R171) -/

/-- Drive the clock low: the bus is inhibited. -/
def State.driveClkLow (s : State) : State := { s with clkCtl := .driveLow }

/-- Release the clock to input. -/
def State.releaseClk (s : State) : State := { s with clkCtl := .release }

/-- Data to input with pull-up. -/
def State.releaseDat (s : State) : State := { s with datCtl := .inputPullup }

/-- Data to output at a level, in one atomic action (40 R106). -/
def State.claimDat (s : State) (v : Level) : State := { s with datCtl := .output, datOut := v }

/-- Drive the data pin to a level. -/
def State.driveDat (s : State) (v : Level) : State := { s with datOut := v }

/-- The Device's drives (40 R117). -/
def State.setDevice (s : State) (c d : Level) : State := { s with devClk := c, devDat := d }

/-! ### Sequencing and completion -/

/-- `goto PHASE` (00 R13). -/
def State.goto (s : State) (p : Phase) : State := { s with phase := p }

/-- `complete(v)`: append the record and return to IDLE (40 R94). -/
def State.complete (s : State) (cmd : Command) (v : Value) : State :=
  { s with hist := s.hist ++ [⟨cmd, v⟩], phase := .idle }

/-- `Delay(us)`: no state is read or written (60 R172). -/
def delay (_us : Nat) (s : State) : State := s

/-! ### Faults and reset -/

/-- `raise Fault(code)`: the one shared operation of raising; nothing but the mark is written
(60 R160). -/
def State.raise (s : State) (code : FaultCode) : State := { s with fault := some code }

/-- Reset, the only way out of a fault: every element at its reset value, the Device's drives, the
configuration and the refusal mark kept (70 R180), and the moves still to come (log 9). -/
def State.resetEvent (s : State) : State :=
  { State.launch s.cfg s.devClk s.devDat with refused := s.refused, sched := s.sched }

/-- The check after an agent's step: contention raises its fault and keeps the step's writes (20 R53,
60 R160). A mark already set stays: one step raises at most one fault (60 R163; log 10). -/
def State.checkContention (s : State) : State :=
  match s.fault with
  | some _ => s
  | none => if s.contended then s.raise .contention else s

/-- The check after a step that answers a next state. -/
def afterStep : Host.Outcome State Fault Refusal → Host.Outcome State Fault Refusal
  | .next s => .next s.checkContention
  | .fault r => .fault r
  | .refused r => .refused r

/-- No agent has a step in a refused launch (60 R175) or with a fault set (60 R164). -/
def guarded (s : State) (k : Host.Outcome State Fault Refusal) : Host.Outcome State Fault Refusal :=
  if s.refused then .refused .illFormedConfiguration
  else match s.fault with
    | some code => .fault (.halted code)
    | none => k

/-- The acceptance of a decoded command: the busy check comes first, then the command's own check, then
its effect in the same step (40 R92, 60 R163). -/
def accept (s : State) (check : Option FaultCode) (effect : Host.Outcome State Fault Refusal) :
    Host.Outcome State Fault Refusal :=
  guarded s <|
    if s.busy then .next (s.raise .busy)
    else match check with
      | some code => .next (s.raise code)
      | none => effect

end Sys2Proof.Machine
end

