-- ==== Sys2Proof/Machine/Flags.lean ====
section
/-! DEFINITION. The flags: the two modifier flags, the block's only flags (10_state R36), and the
count of ones with its odd parity, which WRB computes (10 R34, 40 R109, R111). -/

namespace Sys2Proof.Machine

/-- Write one modifier flag; the other is unchanged (41 R134, R136). -/
def State.setModifier (s : State) (m : Modifier) (v : Bool) : State :=
  match m with
  | .shift => { s with modShift := v }
  | .ctrl => { s with modCtrl := v }

/-- A level as a count, 0 or 1. -/
def levelCount (v : Level) : BitVec 4 := if v then 1 else 0

/-- The parity bit that makes the number of ones odd (40 R111). -/
def oddParity (ones : BitVec 4) : Level := ones.toNat % 2 == 0

end Sys2Proof.Machine
end

