-- ==== Sys2Proof/Machine/Operands.lean ====
section
/-! DEFINITION. The operand forms: bits of the shift register (10_state R33), table reads (20_memory
R54), and the ports a completion record is read through (30_encoding R72, R78). -/

namespace Sys2Proof.Machine

/-- `shreg[i]`. -/
def readBit (b : Byte) (i : BitVec 4) : Level := b.getLsbD i.toNat

/-- `shreg[i] <- 1` (40 R100). -/
def setBit (b : Byte) (i : BitVec 4) : Byte := b ||| (1#8 <<< i.toNat)

/-- `RomRead(T, i)`, defined for an index inside the table (20 R54). -/
def romRead {α : Type} (table : List α) (i : Nat) : Option α := table[i]?

/-- `RomRead(BASE_TABLE, k)` as an entry (30 R75). -/
def readBaseEntry (cfg : Config) (k : Nat) : Option Entry := (romRead cfg.baseTable k).bind Entry.ofRom

/-- `SHIFT_INDEX(c)`. -/
def shiftIndexOf (cfg : Config) (c : Byte) : Int := cfg.shiftIndex[c.toNat]'c.isLt

/-- A result on the result port (30 R78). -/
def resultToPort (cfg : Config) : Result → Port
  | .char c => c.zeroExtend 16
  | .noKey => cfg.noKey

/-- The value of a record on its port; INIT and WRB carry none (10 R42; 30 R72, R78). -/
def Record.port (cfg : Config) (r : Record) : Option Port :=
  match r.value with
  | .none => Option.none
  | .event ev => some (eventToPort ev)
  | .result x => some (resultToPort cfg x)

end Sys2Proof.Machine
end

