-- ==== Sys2Proof/Machine/Engine.lean ====
section
/-! DEFINITION. The protocol engine (40_protocol_engine R90 to R116): one action per phase, and the
meanings of INIT, RDEV and WRB, which are their acceptance steps (R92, R95, R104, R105). A phase
action answers the state after it, or none where the Engine has no enabled step. -/

namespace Sys2Proof.Machine

/-- `WaitUntil(cond)`: the exit actions when the sampled condition holds, no step when it does not
(R90). -/
def waitUntil (cond : Bool) (exit : State) : Option State := if cond then some exit else none

/-! ### Acceptance: INIT, RDEV, WRB -/

/-- INIT's own checks: equal pins, then another pair while configured (R92 checks 4 and 5). -/
def initCheck (clk dat : PinId) (s : State) : Option FaultCode :=
  if clk = dat then some .samePin
  else if s.cfgValid && !(clk == s.clkPin && dat == s.datPin) then some .rebind
  else none

/-- Record the two pins (R95). -/
def State.bindPins (s : State) (clk dat : PinId) : State :=
  { s with clkPin := clk, datPin := dat, cfgValid := true }

/-- INIT configures the two lines and completes in its acceptance step (R95). -/
def execInit (clk dat : PinId) (s : State) : Host.Outcome State Fault Refusal :=
  accept s (initCheck clk dat s)
    (.next (((s.bindPins clk dat).driveClkLow.releaseDat).complete .init .none))

/-- A bus command needs INIT (R92 check 6). -/
def busCheck (s : State) : Option FaultCode := if s.cfgValid then none else some .notInit

/-- RDEV is accepted into RE_REL (R92, R104). -/
def execRdev (s : State) : Host.Outcome State Fault Refusal :=
  accept s (busCheck s) (.next (s.goto .reRel))

/-- WRB latches the byte and is accepted into WR_RTS (R92, R105). -/
def execWrb (code : Byte) (s : State) : Host.Outcome State Fault Refusal :=
  accept s (busCheck s) (.next ({ s with shreg := code }.goto .wrRts))

/-! ### RDEV: claim, receive, deliver, inhibit -/

/-- RE_REL (R104). -/
def phaseReRel (s : State) : Option State :=
  some ({ s.releaseClk.releaseDat with rdStage := .first }.goto .rrS0)

/-- RR_S0 (R97). -/
def phaseRrS0 (s : State) : Option State := waitUntil (!s.wireClk) (s.goto .rrS1)

/-- RR_S1 (R98). -/
def phaseRrS1 (s : State) : Option State :=
  waitUntil s.wireClk ({ s with bitIdx := 0, shreg := 0 }.goto .rrB0)

/-- RR_B0 (R99). -/
def phaseRrB0 (s : State) : Option State := waitUntil (!s.wireClk) (s.goto .rrBS)

/-- RR_BS (R100). -/
def phaseRrBS (s : State) : Option State :=
  some ({ s with shreg := if s.wireDat then setBit s.shreg s.bitIdx else s.shreg }.goto .rrB1)

/-- RR_B1 (R101). -/
def phaseRrB1 (s : State) : Option State :=
  waitUntil s.wireClk
    ({ s with bitIdx := s.bitIdx + 1 }.goto (if s.bitIdx + 1 < 8#4 then .rrB0 else .rrP0))

/-- RR_P0 (R102). -/
def phaseRrP0 (s : State) : Option State := waitUntil (!s.wireClk) (s.goto .rrP1)

/-- RR_P1 (R102). -/
def phaseRrP1 (s : State) : Option State := waitUntil s.wireClk (s.goto .rrT0)

/-- RR_T0 (R102). -/
def phaseRrT0 (s : State) : Option State := waitUntil (!s.wireClk) (s.goto .rrT1)

/-- Another device byte is read in a new stage (R103). -/
def State.nextByte (s : State) (stage : RdStage) : State := { s with rdStage := stage }.goto .rrS0

/-- The event is built and the bus is claimed back (R103). -/
def State.deliverEvent (s : State) (ev : Int) : State := { s with ev := ev }.goto .reInh

/-- `deliver(b)`: the dispatch on the lead-ins read so far (R103). -/
def State.deliver (s : State) (b : Byte) : State :=
  match s.rdStage with
  | .first =>
    if b = leadF0 then s.nextByte .afterF0
    else if b = leadE0 then s.nextByte .afterE0
    else s.deliverEvent (plainPress b)
  | .afterF0 => s.deliverEvent (plainRelease b)
  | .afterE0 =>
    if b = leadF0 then s.nextByte .afterE0F0 else s.deliverEvent (extendedPress s.cfg b)
  | .afterE0F0 => s.deliverEvent (extendedRelease s.cfg b)

/-- RR_T1 (R102, R103). -/
def phaseRrT1 (s : State) : Option State := waitUntil s.wireClk (s.deliver s.shreg)

/-- RE_INH (R104). -/
def phaseReInh (s : State) : Option State := some (s.driveClkLow.complete .rdev (.event s.ev))

/-! ### WRB: request, bits, parity, release, acknowledgment, inhibit -/

/-- WR_RTS (R106). -/
def phaseWrRts (s : State) : Option State :=
  some ({ s.claimDat false with bitIdx := 0, ones := 0 }.goto .wrRelc)

/-- WR_RELC (R107). -/
def phaseWrRelc (s : State) : Option State := some (s.releaseClk.goto .wrS0)

/-- WR_S0 (R108). -/
def phaseWrS0 (s : State) : Option State := waitUntil (!s.wireClk) (s.goto .wrPut)

/-- WR_PUT (R109). -/
def phaseWrPut (s : State) : Option State :=
  some ({ s.driveDat (readBit s.shreg s.bitIdx) with
    ones := s.ones + levelCount (readBit s.shreg s.bitIdx) }.goto .wrB1)

/-- WR_B1 (R110). -/
def phaseWrB1 (s : State) : Option State := waitUntil s.wireClk (s.goto .wrB0)

/-- WR_B0 (R110). -/
def phaseWrB0 (s : State) : Option State :=
  waitUntil (!s.wireClk)
    ({ s with bitIdx := s.bitIdx + 1 }.goto (if s.bitIdx + 1 < 8#4 then .wrPut else .wrPar))

/-- WR_PAR (R111). -/
def phaseWrPar (s : State) : Option State := some ((s.driveDat (oddParity s.ones)).goto .wrP1)

/-- WR_P1 (R112). -/
def phaseWrP1 (s : State) : Option State := waitUntil s.wireClk (s.goto .wrP0)

/-- WR_P0 (R112). -/
def phaseWrP0 (s : State) : Option State := waitUntil (!s.wireClk) (s.goto .wrReld)

/-- WR_RELD (R113). -/
def phaseWrReld (s : State) : Option State := some (s.releaseDat.goto .wrDly)

/-- WR_DLY (R114). -/
def phaseWrDly (s : State) : Option State := some ((delay Config.wrDelayUs s).goto .wrAck)

/-- WR_ACK: one joint sample of both lines (R115). -/
def phaseWrAck (s : State) : Option State := waitUntil (s.wireClk && s.wireDat) (s.goto .wrInh)

/-- WR_INH (R116). -/
def phaseWrInh (s : State) : Option State := some (s.driveClkLow.complete .wrb .none)

/-! ### The sequencer -/

/-- The Engine's step: the action of its phase (R91), or none where it is idle or held (R90). -/
def engineStep (s : State) : Option State :=
  match s.phase with
  | .idle => none
  | .reRel => phaseReRel s
  | .rrS0 => phaseRrS0 s
  | .rrS1 => phaseRrS1 s
  | .rrB0 => phaseRrB0 s
  | .rrBS => phaseRrBS s
  | .rrB1 => phaseRrB1 s
  | .rrP0 => phaseRrP0 s
  | .rrP1 => phaseRrP1 s
  | .rrT0 => phaseRrT0 s
  | .rrT1 => phaseRrT1 s
  | .reInh => phaseReInh s
  | .wrRts => phaseWrRts s
  | .wrRelc => phaseWrRelc s
  | .wrS0 => phaseWrS0 s
  | .wrPut => phaseWrPut s
  | .wrB1 => phaseWrB1 s
  | .wrB0 => phaseWrB0 s
  | .wrPar => phaseWrPar s
  | .wrP1 => phaseWrP1 s
  | .wrP0 => phaseWrP0 s
  | .wrReld => phaseWrReld s
  | .wrDly => phaseWrDly s
  | .wrAck => phaseWrAck s
  | .wrInh => phaseWrInh s

end Sys2Proof.Machine
end

