-- ==== Sys2Proof/Machine/Translator.lean ====
section
/-! DEFINITION. The Translator (41_translator R130 to R140): the stages of XLAT and its meaning. -/

namespace Sys2Proof.Machine

/-- Normalization of the right CTRL and the keypad ENTER (R131, R132). -/
def normalizeEvent (cfg : Config) (ev : Int) : Int :=
  if ev = cfg.rctrlExt then cfg.lctrlCode.toNat
  else if ev = -cfg.rctrlExt then -(cfg.lctrlCode.toNat : Int)
  else if ev = cfg.kpenterExt then cfg.enterCode.toNat
  else ev

/-- The lowercase letters, 0x61 to 0x7A (R137). -/
def isLowercase (c : Byte) : Bool := decide (0x61 ≤ c.toNat) && decide (c.toNat ≤ 0x7A)

/-- The shift stage; none stands for a result of `NoKey` (R137, R138). -/
def shiftStage (cfg : Config) (c : Byte) : Option Byte :=
  if isLowercase c then some (c &&& 0xDF)
  else if shiftIndexOf cfg c < 0 ∨ (cfg.shiftLen : Int) ≤ shiftIndexOf cfg c then none
  else romRead cfg.shiftTable (shiftIndexOf cfg c).toNat

/-- The ctrl stage (R139). -/
def ctrlStage (active : Bool) (c : Byte) : Byte := if active then c &&& 0x1F else c

/-- The result of pressing a character key: SHIFT first, CTRL second (R137 to R140, R158). -/
def charResult (cfg : Config) (shift ctrl : Bool) (c : Byte) : Result :=
  match if shift then shiftStage cfg c else some c with
  | none => .noKey
  | some c' => .char (ctrlStage ctrl c')

/-- `complete` of an XLAT. -/
def State.completeXlat (s : State) (r : Result) : State := s.complete .xlat (.result r)

/-- Release: a marked entry clears its flag, and every release gives `NoKey` (R134). -/
def State.releaseKey (s : State) (ent : Entry) : State :=
  match ent with
  | .undef => s.completeXlat .noKey
  | .char _ => s.completeXlat .noKey
  | .modifier m => (s.setModifier m false).completeXlat .noKey

/-- Press: an undefined key, a modifier key, or a character (R135 to R140). -/
def State.pressKey (s : State) (ent : Entry) : State :=
  match ent with
  | .undef => s.completeXlat .noKey
  | .char c => s.completeXlat (charResult s.cfg s.modShift s.modCtrl c)
  | .modifier m => (s.setModifier m true).completeXlat .noKey

/-- The stages after normalization: range check, then release or press (R133 to R140). A reserved ROM
byte is met in no launch and is refused (log 8). -/
def translateEvent (e : Int) (s : State) : Host.Outcome State Fault Refusal :=
  if s.cfg.baseLen ≤ e.natAbs then .next (s.completeXlat .noKey)
  else match readBaseEntry s.cfg e.natAbs with
    | none => .refused .illFormedConfiguration
    | some ent => .next (if e < 0 then s.releaseKey ent else s.pressKey ent)

/-- XLAT translates in its acceptance step; it has no check of its own (R130, R144; 40 R92). -/
def execXlat (ev : Int) (s : State) : Host.Outcome State Fault Refusal :=
  accept s none (translateEvent (normalizeEvent s.cfg ev) s)

end Sys2Proof.Machine
end

