-- ==== Sys2Proof/Machine/Dispatch.lean ====
section
/-! DEFINITION. The meaning of every instruction: its acceptance step (40_protocol_engine R92). -/

namespace Sys2Proof.Machine

def exec (i : Instr) (s : State) : Host.Outcome State Fault Refusal :=
  match i with
  | .init clk dat => Sys2Proof.Machine.execInit clk dat s
  | .rdev => Sys2Proof.Machine.execRdev s
  | .wrb code => Sys2Proof.Machine.execWrb code s
  | .xlat ev => Sys2Proof.Machine.execXlat ev s

end Sys2Proof.Machine
end

