-- ==== Sys2Proof/Machine/Moves.lean ====
section
/-! DEFINITION. The steps of the agents and the move the schedule gives next (00_scope R3, 20_memory
R61), the command word that is issued next, and the reference Device scripts with the scheduling
premise (40_protocol_engine R117 to R120; 30_encoding R73, R86). -/

namespace Sys2Proof.Machine

/-- The Engine is given a step. Where it has none, idle or held, nothing changes (40 R90; log 3). -/
def engineMove (s : State) : Host.Outcome State Fault Refusal :=
  guarded s <|
    match engineStep s with
    | none => .next s
    | some t => .next t.checkContention

/-- The Device takes the step `DEV(c, d)` (40 R117). -/
def deviceMove (c d : Level) (s : State) : Host.Outcome State Fault Refusal :=
  guarded s (.next (s.setDevice c d).checkContention)

/-- The fault of a word that spells no command (30 R81, R82). -/
def decodeFault : DecodeError → FaultCode
  | .reservedOp => .reservedOp
  | .reservedField => .reservedField

/-- The Caller issues a command word: the busy check comes before the word is read (40 R92). -/
def callerMove (w : Word) (s : State) : Host.Outcome State Fault Refusal :=
  afterStep <|
    match decode w with
    | .ok i => exec i s
    | .error e => accept s (some (decodeFault e)) (.next s)

/-- The move a schedule gives; an empty schedule leaves the Engine running (log 2). -/
def takeMove (s : State) : Host.Outcome State Fault Refusal :=
  match s.sched with
  | [] => engineMove s
  | .engine :: rest => engineMove { s with sched := rest }
  | .device c d :: rest => deviceMove c d { s with sched := rest }
  | .caller w :: rest => callerMove w { s with sched := rest }
  | .reset :: rest => .next { s with sched := rest }.resetEvent

/-- The Caller's next move is a command word, given in the opcode table's numbering of bits. -/
def State.issueNext (s : State) (nbits w : Nat) : State :=
  { s with sched := .caller (BitVec.ofNat 32 (w % 2 ^ nbits)) :: s.sched }

/-! ### Reference Device scripts: premises, not rules of the block (40 R118 to R120) -/

/-- The count of ones among the low bits of a byte. -/
def onesBelow (b : Byte) : Nat → Nat
  | 0 => 0
  | k + 1 => onesBelow b k + (if b.getLsbD k then 1 else 0)

/-- The parity level that makes eight data bits and parity odd (30 R74; 40 R118). -/
def frameParity (b : Byte) : Level := onesBelow b 8 % 2 == 0

/-- The eight data cells of a frame, least significant first (20 R55). -/
def dataCells (b : Byte) : List Level := (List.range 8).map fun i => b.getLsbD i

/-- The eleven cells of a device-to-host frame with given framing levels (30 R73). -/
def frameCells (start : Level) (b : Byte) (parity stop : Level) : List Level :=
  start :: (dataCells b ++ [parity, stop])

/-- The Device clocks one cell: data set while the clock is high, clock low, clock high. -/
def sendCell (v : Level) : List (Level × Level) := [(true, v), (false, v), (true, v)]

/-- The Device clocks a list of cells and releases data. -/
def sendCells (cells : List Level) : List (Level × Level) := cells.flatMap sendCell ++ [(true, true)]

/-- `DEV send b` (40 R118): 34 Device steps. -/
def devSend (b : Byte) : List (Level × Level) := sendCells (frameCells false b (frameParity b) true)

/-- `DEV recv` (40 R119): ten clock pulses, then the acknowledgment; 24 Device steps. -/
def devRecv : List (Level × Level) :=
  (List.replicate 10 [(false, true), (true, true)]).flatten ++
    [(true, false), (false, false), (true, false), (true, true)]

/-- The number of Engine steps that leaves the Engine idle or held after a Device step (log 12). -/
def keepUpGrants : Nat := 4

/-- `HOST_KEEPS_UP` (40 R120) as a schedule: after every Device step the Engine runs until it is idle
or held. -/
def keepUp (script : List (Level × Level)) : List Move :=
  script.flatMap fun p => .device p.1 p.2 :: List.replicate keepUpGrants .engine

end Sys2Proof.Machine
end

