-- ==== Sys2Proof/Machine/Step.lean ====
section
/-! DEFINITION. One step of the machine: the next move of the schedule. -/

namespace Sys2Proof.Machine

/-- One step: the agent the schedule names next takes its step (20_memory R61). -/
def step (s : State) : Host.Outcome State Fault Refusal := takeMove s

/-- The state in which the Caller issues the word next: a command reaches the block from the Caller
alone (40_protocol_engine R92; log 13). -/
def State.withFetchWord (s : State) (nbits w : Nat) : State := s.issueNext nbits w

end Sys2Proof.Machine
end

