-- ==== Sys2Proof/Safety.lean ====
section
/-! DEFINITION. What claims about runs are written in: the conditions under which an agent has a step,
runs and their observation (60_exceptions R179), the configuration of the pins in each phase (10_state
R24, R25, R28), the invariant of the block, and which registers a later step can read (10 R44, R45). -/

namespace Sys2Proof.Machine

/-! ### Runs -/

/-- Agents have steps: the launch is not refused and no fault is set (60 R164, R175). -/
abbrev State.live (s : State) : Prop := s.refused = false ∧ s.fault = none

/-- The state after the schedule's next move is taken off and before it acts. -/
def State.popped (s : State) : State := { s with sched := s.sched.tail }

/-- `n` steps of the machine. -/
def runSteps (n : Nat) (s : State) : Host.Outcome State Fault Refusal := Host.Core.run Sys2Proof.core n s

/-- A state met on some run: any configuration, any launch levels of the Device, any schedule. -/
def Reachable (t : State) : Prop :=
  ∃ cfg c d ms n, runSteps n { State.launch cfg c d with sched := ms } = .next t

/-- The observation of a run (60 R179). -/
def State.observation (s : State) : List Record × (Bool × Bool) × (ClkCtl × DatCtl) :=
  (s.hist, (s.modShift, s.modCtrl), (s.clkCtl, s.datCtl))

/-- The Caller still has a command to issue. -/
def Move.isCommand : Move → Bool
  | .caller _ => true
  | .engine => false
  | .device _ _ => false
  | .reset => false

/-- A run ends well: not refused, no fault, idle, every command of the program issued and completed
(60 R179). -/
abbrev State.endsWell (s : State) (program : List Instr) : Prop :=
  s.refused = false ∧ s.fault = none ∧ s.phase = .idle ∧ s.sched.all (fun m => !m.isCommand) = true ∧
    s.hist.map Record.command = program.map Instr.command

/-! ### Waits (40 R90) -/

/-- The level of CLK that a phase waits for, where it waits for CLK alone (40 R97 to R102, R108 to
R112). -/
def Phase.waitsFor : Phase → Option Level
  | .rrS0 => some false | .rrS1 => some true | .rrB0 => some false | .rrB1 => some true
  | .rrP0 => some false | .rrP1 => some true | .rrT0 => some false | .rrT1 => some true
  | .wrS0 => some false | .wrB1 => some true | .wrB0 => some false
  | .wrP1 => some true | .wrP0 => some false
  | .idle => none | .reRel => none | .rrBS => none | .reInh => none
  | .wrRts => none | .wrRelc => none | .wrPut => none | .wrPar => none
  | .wrReld => none | .wrDly => none | .wrAck => none | .wrInh => none

/-- The Engine is held: it is in a wait whose condition is false (40 R90, R115). -/
def State.held (s : State) : Bool :=
  match s.phase.waitsFor with
  | some v => s.wireClk != v
  | none => s.phase == .wrAck && !(s.wireClk && s.wireDat)

/-- The phases whose step samples CLK (20 R51). -/
def Phase.samplesClk (p : Phase) : Bool := p.waitsFor.isSome || p == .wrAck

/-- The phases whose step samples DAT (20 R51). -/
def Phase.samplesDat (p : Phase) : Bool := p == .rrBS || p == .wrAck

/-! ### The invariant -/

/-- The pin configuration in each phase; at idle, after INIT, the bus is inhibited (10 R28). -/
def expectedPins (cfgValid : Bool) : Phase → ClkCtl × DatCtl
  | .idle => if cfgValid then (.driveLow, .inputPullup) else (.unconf, .unconf)
  | .reRel => (.driveLow, .inputPullup)
  | .rrS0 => (.release, .inputPullup) | .rrS1 => (.release, .inputPullup)
  | .rrB0 => (.release, .inputPullup) | .rrBS => (.release, .inputPullup)
  | .rrB1 => (.release, .inputPullup) | .rrP0 => (.release, .inputPullup)
  | .rrP1 => (.release, .inputPullup) | .rrT0 => (.release, .inputPullup)
  | .rrT1 => (.release, .inputPullup) | .reInh => (.release, .inputPullup)
  | .wrRts => (.driveLow, .inputPullup) | .wrRelc => (.driveLow, .output)
  | .wrS0 => (.release, .output) | .wrPut => (.release, .output)
  | .wrB1 => (.release, .output) | .wrB0 => (.release, .output)
  | .wrPar => (.release, .output) | .wrP1 => (.release, .output)
  | .wrP0 => (.release, .output) | .wrReld => (.release, .output)
  | .wrDly => (.release, .inputPullup) | .wrAck => (.release, .inputPullup)
  | .wrInh => (.release, .inputPullup)

/-- `ones` counts the ones among the first `k` bits of the byte being sent (10 R34). -/
def State.onesCount (s : State) (k : Nat) : Prop := s.ones.toNat = onesBelow s.shreg k

/-- The progress of a frame (10 R32 to R35; 40 R98 to R103, R106 to R113): `bit_idx` in its range, no
bit received above `bit_idx`, the count of ones, the level driven while the Device reads a cell, and an
event of R71 about to be completed. -/
def State.progress (s : State) : Prop :=
  match s.phase with
  | .rrB0 => s.bitIdx.toNat < 8 ∧ s.shreg.toNat < 2 ^ s.bitIdx.toNat
  | .rrBS => s.bitIdx.toNat < 8 ∧ s.shreg.toNat < 2 ^ s.bitIdx.toNat
  | .rrB1 => s.bitIdx.toNat < 8 ∧ s.shreg.toNat < 2 ^ (s.bitIdx.toNat + 1)
  | .rrP0 => s.bitIdx.toNat = 8 | .rrP1 => s.bitIdx.toNat = 8
  | .rrT0 => s.bitIdx.toNat = 8 | .rrT1 => s.bitIdx.toNat = 8
  | .reInh => isRdevEvent s.cfg s.ev
  | .wrRelc => s.bitIdx.toNat = 0 ∧ s.onesCount 0 ∧ s.datOut = false
  | .wrS0 => s.bitIdx.toNat = 0 ∧ s.onesCount 0 ∧ s.datOut = false
  | .wrPut => s.bitIdx.toNat < 8 ∧ s.onesCount s.bitIdx.toNat
  | .wrB1 => s.bitIdx.toNat < 8 ∧ s.onesCount (s.bitIdx.toNat + 1) ∧
      s.datOut = readBit s.shreg s.bitIdx
  | .wrB0 => s.bitIdx.toNat < 8 ∧ s.onesCount (s.bitIdx.toNat + 1) ∧
      s.datOut = readBit s.shreg s.bitIdx
  | .wrPar => s.bitIdx.toNat = 8 ∧ s.onesCount 8
  | .wrP1 => s.bitIdx.toNat = 8 ∧ s.onesCount 8 ∧ s.datOut = frameParity s.shreg
  | .wrP0 => s.bitIdx.toNat = 8 ∧ s.onesCount 8 ∧ s.datOut = frameParity s.shreg
  | .wrReld => s.bitIdx.toNat = 8 ∧ s.onesCount 8 ∧ s.datOut = frameParity s.shreg
  | .idle => True | .reRel => True | .rrS0 => True | .rrS1 => True | .wrRts => True
  | .wrDly => True | .wrAck => True | .wrInh => True

/-- A record carries the value its command gives (10 R42): an event RDEV can produce (30 R71), a result
with a character in 0x00 to 0x7F (41 R140), or none. -/
def Record.sound (cfg : Config) (r : Record) : Prop :=
  match r.command, r.value with
  | .init, .none => True
  | .wrb, .none => True
  | .rdev, .event ev => isRdevEvent cfg ev
  | .xlat, .result .noKey => True
  | .xlat, .result (.char c) => c.toNat ≤ 0x7F
  | _, _ => False

/-- The invariant of the block. -/
structure State.Inv (s : State) : Prop where
  /-- The refusal mark is true exactly when the configuration is ill formed (10 R44). -/
  mark : s.refused = !s.cfg.wf
  /-- Contention never goes unmarked (20 R53). -/
  contention : s.contended = true → s.fault ≠ none
  /-- The pins are configured as the phase has it (10 R24, R25, R28). -/
  pins : (s.clkCtl, s.datCtl) = expectedPins s.cfgValid s.phase
  /-- A command in progress has INIT behind it (40 R92). -/
  configured : s.phase ≠ .idle → s.cfgValid = true
  /-- The two pins bound are distinct (30 R67). -/
  distinct : s.cfgValid = true → s.clkPin ≠ s.datPin
  /-- The frame in progress is consistent. -/
  progress : s.progress
  /-- Every record is sound. -/
  history : ∀ r ∈ s.hist, r.sound s.cfg

/-! ### Registers that no later step reads before writing (10 R44; 40 R125) -/

/-- A later step may read `bit_idx`. -/
def Phase.readsBitIdx : Phase → Bool
  | .rrB0 => true | .rrBS => true | .rrB1 => true
  | .wrRelc => true | .wrS0 => true | .wrPut => true | .wrB1 => true | .wrB0 => true
  | .idle => false | .reRel => false | .rrS0 => false | .rrS1 => false | .rrP0 => false
  | .rrP1 => false | .rrT0 => false | .rrT1 => false | .reInh => false | .wrRts => false
  | .wrPar => false | .wrP1 => false | .wrP0 => false | .wrReld => false | .wrDly => false
  | .wrAck => false | .wrInh => false

/-- A later step may read `shreg`. -/
def Phase.readsShreg : Phase → Bool
  | .rrB0 => true | .rrBS => true | .rrB1 => true | .rrP0 => true | .rrP1 => true
  | .rrT0 => true | .rrT1 => true
  | .wrRts => true | .wrRelc => true | .wrS0 => true | .wrPut => true | .wrB1 => true | .wrB0 => true
  | .idle => false | .reRel => false | .rrS0 => false | .rrS1 => false | .reInh => false
  | .wrPar => false | .wrP1 => false | .wrP0 => false | .wrReld => false | .wrDly => false
  | .wrAck => false | .wrInh => false

/-- A later step may read `ones`. -/
def Phase.readsOnes : Phase → Bool
  | .wrRelc => true | .wrS0 => true | .wrPut => true | .wrB1 => true | .wrB0 => true | .wrPar => true
  | .idle => false | .reRel => false | .rrS0 => false | .rrS1 => false | .rrB0 => false
  | .rrBS => false | .rrB1 => false | .rrP0 => false | .rrP1 => false | .rrT0 => false
  | .rrT1 => false | .reInh => false | .wrRts => false | .wrP1 => false | .wrP0 => false
  | .wrReld => false | .wrDly => false | .wrAck => false | .wrInh => false

/-- A later step may read `rd_stage`. -/
def Phase.readsStage : Phase → Bool
  | .rrS0 => true | .rrS1 => true | .rrB0 => true | .rrBS => true | .rrB1 => true
  | .rrP0 => true | .rrP1 => true | .rrT0 => true | .rrT1 => true
  | .idle => false | .reRel => false | .reInh => false | .wrRts => false | .wrRelc => false
  | .wrS0 => false | .wrPut => false | .wrB1 => false | .wrB0 => false | .wrPar => false
  | .wrP1 => false | .wrP0 => false | .wrReld => false | .wrDly => false | .wrAck => false
  | .wrInh => false

/-- The state with every register that no later step can read set to 0: two states with one erasure
differ only in values the spec calls absent (10 R44). -/
def State.eraseDead (s : State) : State :=
  { s with
    clkPin := if s.cfgValid then s.clkPin else 0
    datPin := if s.cfgValid then s.datPin else 0
    datOut := if s.datCtl = .output then s.datOut else false
    bitIdx := if s.phase.readsBitIdx then s.bitIdx else 0
    shreg := if s.phase.readsShreg then s.shreg else 0
    ones := if s.phase.readsOnes then s.ones else 0
    rdStage := if s.phase.readsStage then s.rdStage else .first
    ev := if s.phase = .reInh then s.ev else 0 }

/-- An outcome with its next state erased. -/
def eraseOutcome : Host.Outcome State Fault Refusal → Host.Outcome State Fault Refusal
  | .next s => .next s.eraseDead
  | .fault r => .fault r
  | .refused r => .refused r

end Sys2Proof.Machine
end

