-- ==== Sys2Proof/Certificates/Slice0/Obligations.lean ====
section
/-! DEFINITION. The statements for the provers, from the numbered rules of spec/. A statement that gives
the whole next state as a record update of the state before is a result, a completion and a frame at
once: every field it does not name is unchanged. -/

open Sys2Proof Sys2Proof.Machine

/-! ### Encodings (spec/30_encoding.md) -/

/-- Decoding the word of a well-formed instruction gives the instruction back, with every operand
(R65 to R69, R77, R89). -/
def Obligations.EncodeThenDecode : Prop :=
  ∀ i : Instr, i.wellFormed = true → decode (encode i) = .ok i

/-- A word that decodes is the word of its instruction, and the instruction is well formed: no word has
two meanings and none is dropped (R65, R82, R87). -/
def Obligations.DecodeThenEncode : Prop :=
  ∀ (w : Word) (i : Instr), decode w = .ok i → encode i = w ∧ i.wellFormed = true

/-- The decoder follows the opcode map of R88 with the operand assembly of R89: a word that decodes
matches exactly one row and takes its operands from that row's fields; a word that does not decode
matches no row, and its error is the one R88 gives. -/
def Obligations.DecodeFollowsOpcodeMap : Prop :=
  ∀ w : Word, match decode w with
    | .ok i => ∃ r ∈ opcodeMap, r.hits w = true ∧
        (∀ r' ∈ opcodeMap, r'.hits w = true → r' = r) ∧
        i = match r.command with
          | .init => .init (w.extractLsb' 8 8) (w.extractLsb' 0 8)
          | .rdev => .rdev
          | .wrb => .wrb (w.extractLsb' 0 8)
          | .xlat => .xlat (w.extractLsb' 0 16).toInt
    | .error e => (∀ r ∈ opcodeMap, r.hits w = false) ∧
        e = if 4 ≤ (w.extractLsb' 29 3).toNat then .reservedOp else .reservedField

/-- Words written out from the encodings decode to what they stand for (R65 to R69, R77, R81, R82). -/
def Obligations.WrittenWordsDecode : Prop :=
  decode 0x00000203 = .ok (.init 2 3) ∧ decode 0x0000FF00 = .ok (.init 255 0) ∧
  decode 0x20000000 = .ok .rdev ∧ decode 0x400000ED = .ok (.wrb 0xED) ∧
  decode 0x6000001C = .ok (.xlat 28) ∧ decode 0x6000FFEE = .ok (.xlat (-18)) ∧
  decode 0x60008000 = .ok (.xlat (-32768)) ∧ decode 0x80000000 = .error .reservedOp ∧
  decode 0x20000001 = .error .reservedField ∧ decode 0x00010203 = .error .reservedField

/-- The event port (R72): the port value is the event modulo 2^16, reading it back sign-extends it, the
two are inverse, every event RDEV can produce fits, and XLAT takes every 16-bit operand. -/
def Obligations.EventPortRoundTrip : Prop :=
  (∀ ev : Int, ((eventToPort ev).toNat : Int) = ev % 2 ^ 16) ∧
  (∀ ev : Int, eventInRange ev = true → portToEvent (eventToPort ev) = ev) ∧
  (∀ p : Port, eventToPort (portToEvent p) = p ∧ eventInRange (portToEvent p) = true) ∧
  (∀ (cfg : Config) (ev : Int), cfg.wf = true → isRdevEvent cfg ev → eventInRange ev = true) ∧
  (∀ (cfg : Config) (ev : Int), Record.port cfg ⟨.rdev, .event ev⟩ = some (eventToPort ev)) ∧
  (∀ p : Port, decode (packWord 3 p) = .ok (.xlat (portToEvent p)))

/-- The ROM bytes of R75: the four forms, the reserved bytes, and the refusal of a table that holds a
reserved byte. -/
def Obligations.RomByteForms : Prop :=
  Entry.ofRom 0x00 = some .undef ∧
  (∀ c : Byte, 0x01 ≤ c.toNat → c.toNat ≤ 0x7F → Entry.ofRom c = some (.char c)) ∧
  Entry.ofRom 0x81 = some (.modifier .shift) ∧ Entry.ofRom 0x82 = some (.modifier .ctrl) ∧
  (∀ b : Byte, Entry.ofRom b = none ↔ b = 0x80 ∨ 0x83 ≤ b.toNat) ∧
  (∀ (b : Byte) (e : Entry), Entry.ofRom b = some e → e.toRom = b) ∧
  (∀ (cfg : Config) (b : Byte), b ∈ cfg.baseTable → Entry.ofRom b = none → cfg.wf = false)

/-- The result port (R78): a character zero-extended, the sentinel `NO_KEY`, 0xFFFF by default, and no
two results share a port value, NUL and the sentinel included. -/
def Obligations.ResultPortDistinct : Prop :=
  (∀ (cfg : Config) (c : Byte), (resultToPort cfg (.char c)).toNat = c.toNat) ∧
  (∀ cfg : Config, resultToPort cfg .noKey = cfg.noKey) ∧
  resultToPort Config.default .noKey = 0xFFFF ∧
  (∀ (cfg : Config) (r r' : Result), cfg.wf = true →
    resultToPort cfg r = resultToPort cfg r' → r = r') ∧
  (∀ (cfg : Config) (r : Result), Record.port cfg ⟨.xlat, .result r⟩ = some (resultToPort cfg r))

/-- The grammar of lead-in sequences, for every final byte, and what a lead-in byte is in each position:
alone in the first position it is no event and steers whatever byte follows it; in the final position it
is a code like any other (R79, R80, R84). -/
def Obligations.LeadInInFinalPosition : Prop :=
  ∀ (cfg : Config) (b : Byte) (rest : List Byte),
    decodeSeq cfg [] = none ∧ decodeSeq cfg [0xF0] = none ∧ decodeSeq cfg [0xE0] = none ∧
    decodeSeq cfg [0xE0, 0xF0] = none ∧
    decodeSeq cfg (0xF0 :: b :: rest) = some (-(b.toNat : Int), rest) ∧
    decodeSeq cfg (0xE0 :: 0xF0 :: b :: rest) = some (-((b.toNat : Int) + cfg.extendOffset), rest) ∧
    (b ≠ 0xF0 → decodeSeq cfg (0xE0 :: b :: rest) = some ((b.toNat : Int) + cfg.extendOffset, rest)) ∧
    (b ≠ 0xE0 → b ≠ 0xF0 → decodeSeq cfg (b :: rest) = some ((b.toNat : Int), rest)) ∧
    decodeSeq cfg (0xF0 :: 0xF0 :: rest) = some (-0xF0, rest) ∧
    decodeSeq cfg (0xF0 :: 0xE0 :: rest) = some (-0xE0, rest) ∧
    decodeSeq cfg (0xE0 :: 0xE0 :: rest) = some (0xE0 + cfg.extendOffset, rest) ∧
    decodeSeq cfg (0xE0 :: 0xF0 :: 0xF0 :: rest) = some (-(0xF0 + cfg.extendOffset), rest) ∧
    decodeSeq cfg (0xE0 :: 0xF0 :: 0xE0 :: rest) = some (-(0xE0 + cfg.extendOffset), rest)

/-! ### Acceptance (spec/40_protocol_engine.md R92) -/

/-- Acceptance of any 32-bit word, read bit by bit: the six checks in the order of R92 and R163, the
first that fails raising its fault and nothing else, and the dispatch of a word that passes. -/
def Obligations.AcceptanceInOrder : Prop :=
  ∀ (s : State) (w : Word) (rest : List Move),
    s.live → s.contended = false → s.sched = .caller w :: rest →
    step s =
      if s.phase ≠ .idle then .next { s with sched := rest, fault := some .busy }
      else if 4 ≤ (w.extractLsb' 29 3).toNat then
        .next { s with sched := rest, fault := some .reservedOp }
      else if w.extractLsb' 16 13 ≠ 0 ∨
          ((w.extractLsb' 29 3).toNat = 1 ∧ w.extractLsb' 0 16 ≠ 0) ∨
          ((w.extractLsb' 29 3).toNat = 2 ∧ w.extractLsb' 8 8 ≠ 0) then
        .next { s with sched := rest, fault := some .reservedField }
      else if (w.extractLsb' 29 3).toNat = 0 ∧ w.extractLsb' 8 8 = w.extractLsb' 0 8 then
        .next { s with sched := rest, fault := some .samePin }
      else if (w.extractLsb' 29 3).toNat = 0 ∧ s.cfgValid = true ∧
          (w.extractLsb' 8 8, w.extractLsb' 0 8) ≠ (s.clkPin, s.datPin) then
        .next { s with sched := rest, fault := some .rebind }
      else if ((w.extractLsb' 29 3).toNat = 1 ∨ (w.extractLsb' 29 3).toNat = 2) ∧
          s.cfgValid = false then
        .next { s with sched := rest, fault := some .notInit }
      else if (w.extractLsb' 29 3).toNat = 0 then
        .next { s with
          sched := rest, clkPin := w.extractLsb' 8 8, datPin := w.extractLsb' 0 8
          clkCtl := .driveLow, datCtl := .inputPullup, cfgValid := true
          hist := s.hist ++ [⟨.init, .none⟩] }
      else if (w.extractLsb' 29 3).toNat = 1 then .next { s with sched := rest, phase := .reRel }
      else if (w.extractLsb' 29 3).toNat = 2 then
        .next { s with sched := rest, shreg := w.extractLsb' 0 8, phase := .wrRts }
      else translateEvent (normalizeEvent s.cfg (w.extractLsb' 0 16).toInt) { s with sched := rest }

/-- A step on a command word that decodes runs the decoded instruction on the state with the move taken
off, and adds the contention check alone (R92; 20 R53); so does the word placed by `withFetchWord`.
That a command comes from the schedule is the model's form (log 2, log 13). -/
def Obligations.StepRunsDecodedInstruction : Prop :=
  (∀ (s : State) (w : Word) (i : Instr) (rest : List Move), decode w = .ok i →
    s.sched = .caller w :: rest → step s = afterStep (exec i { s with sched := rest })) ∧
  (∀ (s : State) (w : Word) (i : Instr), decode w = .ok i →
    step (s.withFetchWord 32 w.toNat) = afterStep (exec i s)) ∧
  (∀ t : State, afterStep (.next t) =
    .next (if t.fault = none ∧ t.contended = true then { t with fault := some .contention } else t)) ∧
  (∀ r : Fault, afterStep (.fault r) = .fault r) ∧ (∀ r : Refusal, afterStep (.refused r) = .refused r)

/-- INIT completes in its acceptance step on two distinct pins, the first time or again on the same
pair; it inhibits the bus and writes nothing else (R95). -/
def Obligations.InitCompletes : Prop :=
  ∀ (clk dat : PinId) (s : State), s.live → s.phase = .idle → clk ≠ dat →
    (s.cfgValid = true → s.clkPin = clk ∧ s.datPin = dat) →
    ∃ t, exec (.init clk dat) s = .next t ∧ t.wireClk = false ∧
      t = { s with
        clkPin := clk, datPin := dat, clkCtl := .driveLow, datCtl := .inputPullup, cfgValid := true
        hist := s.hist ++ [⟨.init, .none⟩] }

/-- INIT on equal pins raises F_SAME_PIN, configured or not; on another pair while configured,
F_REBIND; nothing but the mark is written (R92 checks 4 and 5; 60 R160, R163). -/
def Obligations.InitPinFaults : Prop :=
  ∀ (clk dat : PinId) (s : State), s.live → s.phase = .idle →
    (clk = dat → exec (.init clk dat) s = .next { s with fault := some .samePin }) ∧
    (clk ≠ dat → s.cfgValid = true → (clk ≠ s.clkPin ∨ dat ≠ s.datPin) →
      exec (.init clk dat) s = .next { s with fault := some .rebind })

/-- RDEV and WRB are accepted when idle and configured: RDEV into RE_REL, WRB with its byte latched into
WR_RTS, and nothing else is written (R92, R104, R105). -/
def Obligations.BusCommandsAccepted : Prop :=
  ∀ s : State, s.live → s.phase = .idle → s.cfgValid = true →
    exec .rdev s = .next { s with phase := .reRel } ∧
    ∀ code : Byte, exec (.wrb code) s = .next { s with shreg := code, phase := .wrRts }

/-- RDEV and WRB before INIT raise F_NOT_INIT and do nothing else (R92 check 6; 70 R182). -/
def Obligations.BusCommandsNeedInit : Prop :=
  ∀ s : State, s.live → s.phase = .idle → s.cfgValid = false →
    exec .rdev s = .next { s with fault := some .notInit } ∧
    ∀ code : Byte, exec (.wrb code) s = .next { s with fault := some .notInit }

/-- Every command issued while another is in progress raises F_BUSY and does nothing else (R92 check 1;
70 R185). -/
def Obligations.BusyCommandFaults : Prop :=
  ∀ (i : Instr) (s : State), s.live → s.phase ≠ .idle →
    exec i s = .next { s with fault := some .busy }

/-! ### The Translator (spec/41_translator.md) -/

/-- XLAT completes for every operand, with or without INIT, and its result and the flags after it are a
function of the configuration, the flags and the operand alone; it writes the two flags and `hist` and
nothing else (R144; 60 R178). -/
def Obligations.XlatCompletesFromFlagsAlone : Prop :=
  ∃ f : Config → Bool → Bool → Int → (Bool × Bool) × Result, ∀ (ev : Int) (s : State),
    s.live → s.phase = .idle → s.cfg.wf = true →
    exec (.xlat ev) s = .next { s with
      modShift := (f s.cfg s.modShift s.modCtrl ev).1.1
      modCtrl := (f s.cfg s.modShift s.modCtrl ev).1.2
      hist := s.hist ++ [⟨.xlat, .result (f s.cfg s.modShift s.modCtrl ev).2⟩] }

/-- Range check: at or beyond `BASE_LEN` after normalization, press or release, the result is NoKey and
no other state is written (R133). -/
def Obligations.XlatRangeCheck : Prop :=
  ∀ (ev : Int) (s : State), s.live → s.phase = .idle →
    s.cfg.baseLen ≤ (normalizeEvent s.cfg ev).natAbs →
    exec (.xlat ev) s = .next { s with hist := s.hist ++ [⟨.xlat, .result .noKey⟩] }

/-- Normalization: right CTRL, press and release, acts as left CTRL, and the keypad ENTER press as the
main ENTER press; every other event is left as it is; the default codes are 276 and 346 (R131, R132). -/
def Obligations.XlatNormalization : Prop :=
  (∀ s : State, s.cfg.wf = true →
    exec (.xlat s.cfg.rctrlExt) s = exec (.xlat s.cfg.lctrlCode.toNat) s ∧
    exec (.xlat (-s.cfg.rctrlExt)) s = exec (.xlat (-(s.cfg.lctrlCode.toNat : Int))) s ∧
    exec (.xlat s.cfg.kpenterExt) s = exec (.xlat s.cfg.enterCode.toNat) s) ∧
  (∀ (cfg : Config) (ev : Int), ev ≠ cfg.rctrlExt → ev ≠ -cfg.rctrlExt → ev ≠ cfg.kpenterExt →
    normalizeEvent cfg ev = ev) ∧
  Config.default.lctrlCode = 0x14 ∧ Config.default.rctrlExt = 276 ∧
  Config.default.enterCode = 0x5A ∧ Config.default.kpenterExt = 346

/-- The release of the keypad ENTER is not normalized: NoKey, and no flag changes (R157). The two codes
are taken to differ, since with equal codes the event is the right CTRL release (R130). -/
def Obligations.KeypadEnterReleaseIsNoKey : Prop :=
  ∀ s : State, s.live → s.phase = .idle → s.cfg.wf = true → s.cfg.lctrlCode ≠ s.cfg.enterCode →
    exec (.xlat (-s.cfg.kpenterExt)) s =
      .next { s with hist := s.hist ++ [⟨.xlat, .result .noKey⟩] }

/-- Release: the marked flag is cleared, the other is unchanged, any other entry changes nothing, and the
result is NoKey (R134). -/
def Obligations.XlatRelease : Prop :=
  ∀ (ev : Int) (s : State) (ent : Entry), s.live → s.phase = .idle →
    normalizeEvent s.cfg ev < 0 → readBaseEntry s.cfg (normalizeEvent s.cfg ev).natAbs = some ent →
    exec (.xlat ev) s = .next { s with
      modShift := if ent = .modifier .shift then false else s.modShift
      modCtrl := if ent = .modifier .ctrl then false else s.modCtrl
      hist := s.hist ++ [⟨.xlat, .result .noKey⟩] }

/-- Press of an undefined key or of a modifier key: NoKey; a modifier sets its flag and leaves the other,
an undefined key writes no flag; with the flag already set, no flag changes (R135, R136, R143). -/
def Obligations.XlatPressWithoutCharacter : Prop :=
  ∀ (ev : Int) (s : State) (ent : Entry), s.live → s.phase = .idle →
    0 ≤ normalizeEvent s.cfg ev → readBaseEntry s.cfg (normalizeEvent s.cfg ev).natAbs = some ent →
    (ent = .undef →
      exec (.xlat ev) s = .next { s with hist := s.hist ++ [⟨.xlat, .result .noKey⟩] }) ∧
    (ent = .modifier .shift → exec (.xlat ev) s = .next { s with
      modShift := true, hist := s.hist ++ [⟨.xlat, .result .noKey⟩] }) ∧
    (ent = .modifier .ctrl → exec (.xlat ev) s = .next { s with
      modCtrl := true, hist := s.hist ++ [⟨.xlat, .result .noKey⟩] })

/-- Press of a character key: the letter case bit, the shifted-punctuation lookup with its bounds, then
the CTRL mask, which NoKey is never given to (R137, R138, R139). -/
def Obligations.XlatPressCharacter : Prop :=
  ∀ (ev : Int) (s : State) (c : Byte), s.live → s.phase = .idle →
    0 ≤ normalizeEvent s.cfg ev →
    readBaseEntry s.cfg (normalizeEvent s.cfg ev).natAbs = some (.char c) →
    (s.modShift = false → exec (.xlat ev) s = .next { s with hist := s.hist ++
      [⟨.xlat, .result (.char (if s.modCtrl then c &&& 0x1F else c))⟩] }) ∧
    (s.modShift = true → 0x61 ≤ c.toNat → c.toNat ≤ 0x7A → exec (.xlat ev) s = .next { s with
      hist := s.hist ++
        [⟨.xlat, .result (.char (if s.modCtrl then (c &&& 0xDF) &&& 0x1F else c &&& 0xDF))⟩] }) ∧
    (s.modShift = true → (c.toNat < 0x61 ∨ 0x7A < c.toNat) →
      (shiftIndexOf s.cfg c < 0 ∨ (s.cfg.shiftLen : Int) ≤ shiftIndexOf s.cfg c) →
      exec (.xlat ev) s = .next { s with hist := s.hist ++ [⟨.xlat, .result .noKey⟩] }) ∧
    (s.modShift = true → (c.toNat < 0x61 ∨ 0x7A < c.toNat) → ∀ (i : Nat) (v : Byte),
      shiftIndexOf s.cfg c = (i : Int) → s.cfg.shiftTable[i]? = some v →
      exec (.xlat ev) s = .next { s with hist := s.hist ++
        [⟨.xlat, .result (.char (if s.modCtrl then v &&& 0x1F else v))⟩] })

/-- With a well-formed configuration every character result is in 0x00 to 0x7F (R140). -/
def Obligations.XlatCharactersSevenBit : Prop :=
  ∀ (ev : Int) (s t : State) (c : Byte), s.cfg.wf = true → exec (.xlat ev) s = .next t →
    t.hist = s.hist ++ [⟨.xlat, .result (.char c)⟩] → c.toNat ≤ 0x7F

/-- The table of modifier transitions (R141), for every entry and both signs, and no change beyond the
table; with the default table the marked codes are exactly 0x12, 0x59 and 0x14, to which the right CTRL
is normalized. -/
def Obligations.ModifierTransitions : Prop :=
  (∀ (ev : Int) (s : State), s.live → s.phase = .idle → s.cfg.wf = true →
    ∃ t, exec (.xlat ev) s = .next t ∧
      (s.cfg.baseLen ≤ (normalizeEvent s.cfg ev).natAbs →
        t.modShift = s.modShift ∧ t.modCtrl = s.modCtrl) ∧
      (∀ ent, readBaseEntry s.cfg (normalizeEvent s.cfg ev).natAbs = some ent →
        t.modShift = (if ent = .modifier .shift then decide (0 ≤ normalizeEvent s.cfg ev) else s.modShift) ∧
        t.modCtrl = (if ent = .modifier .ctrl then decide (0 ≤ normalizeEvent s.cfg ev) else s.modCtrl))) ∧
  (∀ k : Nat, k < 128 →
    (readBaseEntry Config.default k = some (.modifier .shift) ↔ k = 0x12 ∨ k = 0x59) ∧
    (readBaseEntry Config.default k = some (.modifier .ctrl) ↔ k = 0x14)) ∧
  normalizeEvent Config.default Config.default.rctrlExt = 0x14 ∧
  normalizeEvent Config.default (-Config.default.rctrlExt) = -0x14

/-- One flag per modifier: with the default tables, pressing both shift keys and releasing one leaves
SHIFT clear, and so for the two CTRL keys (R142). -/
def Obligations.SharedModifierFlag : Prop :=
  ∀ s : State, s.live → s.phase = .idle → s.cfg = Config.default →
    (∃ t u v, exec (.xlat 0x12) s = .next t ∧ exec (.xlat 0x59) t = .next u ∧
      exec (.xlat (-0x12)) u = .next v ∧ t.modShift = true ∧ u.modShift = true ∧
      v.modShift = false) ∧
    (∃ t u v, exec (.xlat 0x14) s = .next t ∧ exec (.xlat 276) t = .next u ∧
      exec (.xlat (-276)) u = .next v ∧ t.modCtrl = true ∧ u.modCtrl = true ∧ v.modCtrl = false)

/-- Every event of magnitude 256 or more that is not normalized, extended or never produced by RDEV,
gives NoKey and changes no flag (R153, R156). -/
def Obligations.LargeEventsGiveNoKey : Prop :=
  ∀ (ev : Int) (s : State), s.live → s.phase = .idle → s.cfg.wf = true → 256 ≤ ev.natAbs →
    ev ≠ s.cfg.rctrlExt → ev ≠ -s.cfg.rctrlExt → ev ≠ s.cfg.kpenterExt →
    exec (.xlat ev) s = .next { s with hist := s.hist ++ [⟨.xlat, .result .noKey⟩] }

/-- The default configuration is well formed; its tables have 128 and 29 entries and hold, byte for byte,
what R147 and R150 list (ROM bytes as R75 has them, sixteen codes a line), 69 entries of the base table
defined; its `SHIFT_INDEX` is the formula of R149 at every character; its other parameters are those of
00 R9. -/
def Obligations.DefaultConfiguration : Prop :=
  Config.default.wf = true ∧ Config.default.baseLen = 128 ∧ Config.default.shiftLen = 29 ∧
  (Config.default.baseTable.countP fun b => decide (b ≠ 0)) = 69 ∧
  Config.default.baseTable =
    [0x00, 0x00, 0x00, 0x00, 0x00, 0x00, 0x00, 0x00, 0x00, 0x00, 0x00, 0x00, 0x00, 0x09, 0x60, 0x00] ++
    [0x00, 0x00, 0x81, 0x00, 0x82, 0x71, 0x31, 0x00, 0x00, 0x00, 0x7A, 0x73, 0x61, 0x77, 0x32, 0x00] ++
    [0x00, 0x63, 0x78, 0x64, 0x65, 0x34, 0x33, 0x00, 0x00, 0x20, 0x76, 0x66, 0x74, 0x72, 0x35, 0x00] ++
    [0x00, 0x6E, 0x62, 0x68, 0x67, 0x79, 0x36, 0x00, 0x00, 0x00, 0x6D, 0x6A, 0x75, 0x37, 0x38, 0x00] ++
    [0x00, 0x2C, 0x6B, 0x69, 0x6F, 0x30, 0x39, 0x00, 0x00, 0x2E, 0x2F, 0x6C, 0x3B, 0x70, 0x2D, 0x00] ++
    [0x00, 0x00, 0x27, 0x00, 0x5B, 0x3D, 0x00, 0x00, 0x00, 0x81, 0x0D, 0x5D, 0x00, 0x5C, 0x00, 0x00] ++
    [0x00, 0x00, 0x00, 0x00, 0x00, 0x00, 0x08, 0x00, 0x00, 0x31, 0x00, 0x34, 0x37, 0x00, 0x00, 0x00] ++
    [0x30, 0x2E, 0x32, 0x35, 0x36, 0x38, 0x1B, 0x00, 0x00, 0x2B, 0x33, 0x2D, 0x2A, 0x39, 0x00, 0x00] ∧
  Config.default.shiftTable =
    [0x22, 0x28, 0x29, 0x2A, 0x2B, 0x3C, 0x5F, 0x3E, 0x3F, 0x29, 0x21, 0x40, 0x23, 0x24, 0x25] ++
    [0x5E, 0x26, 0x2A, 0x28, 0x3A, 0x3A, 0x3C, 0x2B, 0x7B, 0x7C, 0x7D, 0x5E, 0x5F, 0x7E] ∧
  (∀ c : Byte, shiftIndexOf Config.default c =
    (if 0x5B ≤ c.toNat then (c.toNat : Int) - 0x1D else (c.toNat : Int)) - 0x27) ∧
  Config.default.extendOffset = 256 ∧ Config.default.noKey = 0xFFFF ∧
  Config.default.lctrlCode = 0x14 ∧ Config.default.enterCode = 0x5A

/-- With SHIFT and the default tables every character below 0x27, such as Space, Tab, Enter, Backspace
and Esc, gives NoKey, with CTRL or without (R152). -/
def Obligations.ShiftBelowRangeIsNoKey : Prop :=
  ∀ (c : Byte) (ctrl : Bool), c.toNat < 0x27 → charResult Config.default true ctrl c = .noKey

/-! ### The Engine, phase by phase (spec/40_protocol_engine.md) -/

/-- A held Engine changes nothing: a step given to it is a stutter, and with nothing else scheduled it
stays held forever, without a fault (R90, R123; 60 R166). An idle Engine is the same. The stutter is the
model's form of a step that is not enabled (log 3). -/
def Obligations.HeldEngineStays : Prop :=
  (∀ (s : State) (rest : List Move), s.live → (s.held = true ∨ s.phase = .idle) →
    s.sched = .engine :: rest → step s = .next { s with sched := rest }) ∧
  (∀ (n : Nat) (s : State), s.live → (s.held = true ∨ s.phase = .idle) → s.sched = [] →
    runSteps n s = .next s)

/-- The waits without exit actions: each passes to its successor when CLK is at its level, and writes the
phase alone; otherwise the Engine is held (R97, R99, R108, R112; RR_P0 to RR_T0 of R102; WR_B1 of
R110), and the step a stutter (log 3). -/
def Obligations.PlainWaits : Prop :=
  ∀ (p q : Phase) (v : Level), (p, v, q) ∈
    [(Phase.rrS0, false, Phase.rrS1), (.rrB0, false, .rrBS), (.rrP0, false, .rrP1),
     (.rrP1, true, .rrT0), (.rrT0, false, .rrT1), (.wrS0, false, .wrPut), (.wrB1, true, .wrB0),
     (.wrP1, true, .wrP0), (.wrP0, false, .wrReld)] →
    ∀ (s : State) (rest : List Move), s.live → s.contended = false → s.phase = p →
      s.sched = .engine :: rest →
      step s = .next (if s.wireClk = v then { s with sched := rest, phase := q }
        else { s with sched := rest })

/-- RR_S1: when CLK is high, `bit_idx` and `shreg` are cleared and the phase is RR_B0 (R98);
when it is low the step is a stutter (log 3). -/
def Obligations.StartCellClears : Prop :=
  ∀ (s : State) (rest : List Move), s.live → s.contended = false → s.phase = .rrS1 →
    s.sched = .engine :: rest →
    step s = .next (if s.wireClk = true
      then { s with sched := rest, bitIdx := 0, shreg := 0, phase := .rrB0 }
      else { s with sched := rest })

/-- RR_BS: DAT is sampled into bit `bit_idx` of `shreg`, set when the sample is 1 and unchanged when it
is 0; every other bit is unchanged (R100). -/
def Obligations.SampleSetsOneBit : Prop :=
  ∀ (s : State) (rest : List Move), s.live → s.contended = false → s.phase = .rrBS →
    s.bitIdx.toNat < 8 → s.sched = .engine :: rest →
    ∃ b : Byte, step s = .next { s with sched := rest, shreg := b, phase := .rrB1 } ∧
      ∀ i : Nat, i < 8 → b.getLsbD i =
        (if i = s.bitIdx.toNat then s.shreg.getLsbD i || s.wireDat else s.shreg.getLsbD i)

/-- RR_B1 and WR_B0: the bit loops count `bit_idx` up when CLK is at their level and leave when it
reaches 8 (R101, R110); held, the step is a stutter (log 3). -/
def Obligations.BitLoops : Prop :=
  ∀ (s : State) (rest : List Move), s.live → s.contended = false → s.bitIdx.toNat < 8 →
    s.sched = .engine :: rest →
    (s.phase = .rrB1 → step s = .next (if s.wireClk = true
      then { s with sched := rest, bitIdx := s.bitIdx + 1, phase := if s.bitIdx.toNat + 1 < 8 then .rrB0 else .rrP0 }
      else { s with sched := rest })) ∧
    (s.phase = .wrB0 → step s = .next (if s.wireClk = false
      then { s with sched := rest, bitIdx := s.bitIdx + 1, phase := if s.bitIdx.toNat + 1 < 8 then .wrPut else .wrPar }
      else { s with sched := rest }))

/-- RR_T1 and `deliver`: when CLK is high, the received byte is dispatched on the lead-ins read so far;
the pins are not touched (R102, R103). -/
def Obligations.DeliverDispatch : Prop :=
  ∀ (s : State) (rest : List Move), s.live → s.contended = false → s.phase = .rrT1 →
    s.wireClk = true → s.sched = .engine :: rest →
    step s = .next (match s.rdStage with
      | .first =>
        if s.shreg = 0xF0 then { s with sched := rest, rdStage := .afterF0, phase := .rrS0 }
        else if s.shreg = 0xE0 then { s with sched := rest, rdStage := .afterE0, phase := .rrS0 }
        else { s with sched := rest, ev := s.shreg.toNat, phase := .reInh }
      | .afterF0 => { s with sched := rest, ev := -(s.shreg.toNat : Int), phase := .reInh }
      | .afterE0 =>
        if s.shreg = 0xF0 then { s with sched := rest, rdStage := .afterE0F0, phase := .rrS0 }
        else { s with sched := rest, ev := (s.shreg.toNat : Int) + s.cfg.extendOffset, phase := .reInh }
      | .afterE0F0 =>
        { s with sched := rest, ev := -((s.shreg.toNat : Int) + s.cfg.extendOffset), phase := .reInh })

/-- RE_REL and RE_INH: the bus is released for RDEV, and claimed back as it completes with its event
(R104). -/
def Obligations.RdevReleasesAndInhibits : Prop :=
  ∀ (s : State) (rest : List Move), s.live → s.sched = .engine :: rest →
    (s.phase = .reRel → step s = .next { s with
      sched := rest, clkCtl := .release, datCtl := .inputPullup, rdStage := .first, phase := .rrS0 }) ∧
    (s.phase = .reInh → s.contended = false → step s = .next { s with
      sched := rest, clkCtl := .driveLow, hist := s.hist ++ [⟨.rdev, .event s.ev⟩], phase := .idle })

/-- WR_RTS and WR_RELC: the request-to-send, data driven low in one step with the counters cleared, then
the clock released; neither can contend (R106, R107). -/
def Obligations.RequestToSend : Prop :=
  ∀ (s : State) (rest : List Move), s.live → s.sched = .engine :: rest →
    (s.phase = .wrRts → step s = .next { s with
      sched := rest, datCtl := .output, datOut := false, bitIdx := 0, ones := 0, phase := .wrRelc }) ∧
    (s.phase = .wrRelc → s.contended = false → step s = .next { s with
      sched := rest, clkCtl := .release, phase := .wrS0 })

/-- WR_PUT: data bit `bit_idx` is driven and counted; if it is 1 against a Device that pulls data low,
F_CONTENTION is raised and the writes of the step are kept (R109; 20 R53; 60 R160). -/
def Obligations.PutDrivesDataBit : Prop :=
  ∀ (s : State) (rest : List Move), s.live → s.datCtl = .output → s.phase = .wrPut →
    s.sched = .engine :: rest →
    step s = .next { s with
      sched := rest
      datOut := s.shreg.getLsbD s.bitIdx.toNat
      ones := s.ones + (if s.shreg.getLsbD s.bitIdx.toNat then 1 else 0)
      phase := .wrB1
      fault := if s.shreg.getLsbD s.bitIdx.toNat = true ∧ s.devDat = false
        then some .contention else none }

/-- WR_PAR: the parity bit makes the number of ones odd; contention as for a data bit (R111; 20 R53). -/
def Obligations.ParityMakesOnesOdd : Prop :=
  ∀ (s : State) (rest : List Move), s.live → s.datCtl = .output → s.phase = .wrPar →
    s.sched = .engine :: rest →
    ∃ p : Level, (s.ones.toNat + (if p then 1 else 0)) % 2 = 1 ∧
      step s = .next { s with
        sched := rest, datOut := p, phase := .wrP1
        fault := if p = true ∧ s.devDat = false then some .contention else none }

/-- WR_RELD to WR_INH: data released, a delay without effect, the joint wait for both lines high, and
the inhibit with the completion of WRB (R113 to R116); held, the step is a stutter (log 3). -/
def Obligations.ReleaseAcknowledgeInhibit : Prop :=
  ∀ (s : State) (rest : List Move), s.live → s.contended = false → s.sched = .engine :: rest →
    (s.phase = .wrReld → step s = .next { s with
      sched := rest, datCtl := .inputPullup, phase := .wrDly }) ∧
    (s.phase = .wrDly → step s = .next { s with sched := rest, phase := .wrAck }) ∧
    (s.phase = .wrAck → step s = .next (if s.wireClk = true ∧ s.wireDat = true
      then { s with sched := rest, phase := .wrInh } else { s with sched := rest })) ∧
    (s.phase = .wrInh → step s = .next { s with
      sched := rest, clkCtl := .driveLow, hist := s.hist ++ [⟨.wrb, .none⟩], phase := .idle })

/-! ### The wires, the Device and contention -/

/-- Wire resolution is the wired-AND of the two sides; a line the host does not drive follows the Device,
and the host can only pull CLK low (20 R49; 10 R27). R49 reads the spec's premise PULLUPS (R50). -/
def Obligations.WireResolution : Prop :=
  ∀ s : State,
    (s.clkCtl = .driveLow → s.wireClk = false) ∧ (s.clkCtl ≠ .driveLow → s.wireClk = s.devClk) ∧
    (s.datCtl = .output → s.wireDat = (s.datOut && s.devDat)) ∧
    (s.datCtl ≠ .output → s.wireDat = s.devDat)

/-- A Device step sets the two drive elements at any point of a run, and raises F_CONTENTION when it
pulls data low against a host that drives it high (40 R117; 20 R53; 70 R191). -/
def Obligations.DeviceStep : Prop :=
  ∀ (s : State) (c d : Level) (rest : List Move), s.live → s.sched = .device c d :: rest →
    step s = .next { s with
      sched := rest, devClk := c, devDat := d
      fault := if s.datCtl = .output ∧ s.datOut = true ∧ d = false then some .contention else none }

/-- Who raises F_CONTENTION: from a state of the invariant, only a Device step, WR_PUT or WR_PAR, and the
lines do contend after it (60 R162, R163; 20 R53). Where the check stands is log 10. -/
def Obligations.ContentionRaisers : Prop :=
  ∀ s t : State, s.Inv → s.live → step s = .next t → t.fault = some .contention →
    t.contended = true ∧
    ((∃ c d rest, s.sched = .device c d :: rest) ∨
      ((s.sched = [] ∨ ∃ rest, s.sched = .engine :: rest) ∧ (s.phase = .wrPut ∨ s.phase = .wrPar)))

/-! ### Faults, refusal and reset -/

/-- A fault halts the model: no command is accepted and no agent has a step; only reset leaves it, and
clears the mark (60 R164). That a step of a halted machine answers a fault is the model's form (log 7). -/
def Obligations.FaultHalts : Prop :=
  ∀ (s : State) (code : FaultCode), s.refused = false → s.fault = some code →
    (∀ i : Instr, exec i s = .fault (.halted code)) ∧
    ((∀ rest, s.sched ≠ .reset :: rest) → step s = .fault (.halted code)) ∧
    (∀ rest, s.sched = .reset :: rest → ∃ t, step s = .next t ∧ t.fault = none ∧ t.hist = [])

/-- A refused configuration: the launch's mark is true exactly when the configuration is ill formed, no
agent has a step, no step changes the mark, and the examples of 60 R175 are refused. A configuration is
well formed exactly when every condition of 00 R10 holds. That a step of a refused launch answers a
refusal is the model's form (log 8). -/
def Obligations.IllFormedConfigurationRefused : Prop :=
  (∀ (cfg : Config) (c d : Level), (State.launch cfg c d).refused = true ↔ cfg.wf = false) ∧
  (∀ s : State, s.refused = true →
    (∀ i : Instr, exec i s = .refused .illFormedConfiguration) ∧
    ((∀ rest, s.sched ≠ .reset :: rest) → step s = .refused .illFormedConfiguration)) ∧
  (∀ s t : State, step s = .next t → t.refused = s.refused ∧ t.cfg = s.cfg) ∧
  (∀ cfg : Config, (cfg.extendOffset < 256 ∨ 0x80 ∈ cfg.baseTable ∨
    ∃ b ∈ cfg.shiftTable, 0x7F < b.toNat) → cfg.wf = false) ∧
  (∀ cfg : Config, cfg.wf = true ↔
    (256 ≤ cfg.extendOffset ∧ cfg.extendOffset ≤ 32512) ∧
    (1 ≤ cfg.baseTable.length ∧ cfg.baseTable.length ≤ 256) ∧
    ¬ cfg.noKey.toNat ≤ 0x00FF ∧
    (∀ b ∈ cfg.baseTable, b = 0x00 ∨ (0x01 ≤ b.toNat ∧ b.toNat ≤ 0x7F) ∨ b = 0x81 ∨ b = 0x82) ∧
    1 ≤ cfg.shiftTable.length ∧
    (∀ v ∈ cfg.shiftTable, v.toNat ≤ 0x7F) ∧
    cfg.lctrlCode.toNat < cfg.baseTable.length ∧ cfg.enterCode.toNat < cfg.baseTable.length)

/-- Reset, in one step, at any point of a run, a fault, a hang and a refused launch included: the
elements with a reset value take it, the Device's drives, the configuration and the mark stay (70 R180,
R181; 10 R44). That the moves to come stay is the model's form (log 9). -/
def Obligations.ResetStep : Prop :=
  ∀ (s : State) (rest : List Move), s.sched = .reset :: rest →
    ∃ t, step s = .next t ∧ t.cfgValid = false ∧ t.clkCtl = .unconf ∧ t.datCtl = .unconf ∧
      t.phase = .idle ∧ t.modShift = false ∧ t.modCtrl = false ∧ t.fault = none ∧ t.hist = [] ∧
      t.devClk = s.devClk ∧ t.devDat = s.devDat ∧ t.refused = s.refused ∧ t.cfg = s.cfg ∧
      t.sched = rest

/-- The state after reset has the values the spec gives, and the host side of both lines is released
(70 R181; 10 R44). The configuration it launches is the default one, well formed and not refused (the
model's choice, log 1). -/
def Obligations.ResetValues : Prop :=
  State.reset.phase = .idle ∧ State.reset.cfgValid = false ∧ State.reset.clkCtl = .unconf ∧
  State.reset.datCtl = .unconf ∧ State.reset.modShift = false ∧ State.reset.modCtrl = false ∧
  State.reset.fault = none ∧ State.reset.hist = [] ∧ State.reset.cfg = Config.default ∧
  State.reset.refused = false ∧ State.reset.hostClk = true ∧ State.reset.hostDat = true ∧
  State.reset = State.launch Config.default Config.launchDevClk Config.launchDevDat

/-! ### Whole-machine rules -/

/-- The invariant of the block is kept by every step of every agent and by reset: the refusal mark, the
pins as the phase has them (bus ownership at idle), contention never unmarked, `bit_idx`, `ones` and
`shreg` consistent with the frame in progress, and every record of `hist` sound. -/
def Obligations.InvariantKept : Prop := ∀ s t : State, s.Inv → step s = .next t → t.Inv

/-- The invariant holds at every launch, the state after reset among them. -/
def Obligations.InvariantAtLaunch : Prop :=
  (∀ (cfg : Config) (c d : Level) (ms : List Move), { State.launch cfg c d with sched := ms }.Inv) ∧
  State.reset.Inv

/-- Bus ownership on every run, of every configuration, Device and schedule: at every idle point after
the first completed INIT the clock is driven low and data is an input; before it the clock is
unconfigured (10 R28). -/
def Obligations.BusOwnershipOnEveryRun : Prop :=
  ∀ t : State, Reachable t → t.phase = .idle →
    (t.cfgValid = true → t.clkCtl = .driveLow ∧ t.datCtl = .inputPullup) ∧
    (t.cfgValid = false → t.clkCtl = .unconf)

/-- On every run the Engine samples a line only while its own pin for that line is not driven
(20 R51). -/
def Obligations.SamplesOnlyReleasedLines : Prop :=
  ∀ t : State, Reachable t →
    (t.phase.samplesClk = true → t.clkCtl = .release) ∧
    (t.phase.samplesDat = true → t.datCtl = .inputPullup)

/-- Only an XLAT command and reset change the modifier flags, which are false at every launch and after
every reset: not INIT, not the Engine, not the Device (10 R37). -/
def Obligations.OnlyXlatWritesFlags : Prop :=
  (∀ (cfg : Config) (c d : Level),
    (State.launch cfg c d).modShift = false ∧ (State.launch cfg c d).modCtrl = false) ∧
  (∀ (s t : State) (rest : List Move), s.sched = .reset :: rest → step s = .next t →
    t.modShift = false ∧ t.modCtrl = false) ∧
  (∀ s t : State, step s = .next t → (t.modShift, t.modCtrl) ≠ (s.modShift, s.modCtrl) →
    (∃ w ev rest, s.sched = .caller w :: rest ∧ decode w = .ok (.xlat ev)) ∨
    ∃ rest, s.sched = .reset :: rest)

/-- `hist` only grows, by at most one record a step, and the record is of the command that completes: an
INIT or an XLAT whose word this step has issued to the idle block, RDEV with the event built at RE_INH, or
WRB at WR_INH (10 R42; 40 R94). -/
def Obligations.HistoryAppends : Prop :=
  ∀ s t : State, step s = .next t → (∀ rest, s.sched ≠ .reset :: rest) →
    t.hist = s.hist ∨
    (s.phase = .idle ∧ t.phase = .idle ∧ (∃ w clk dat rest, s.sched = .caller w :: rest ∧
      decode w = .ok (.init clk dat)) ∧ t.hist = s.hist ++ [⟨.init, .none⟩]) ∨
    (s.phase = .idle ∧ t.phase = .idle ∧ (∃ w ev rest, s.sched = .caller w :: rest ∧
      decode w = .ok (.xlat ev)) ∧ ∃ r, t.hist = s.hist ++ [⟨.xlat, .result r⟩]) ∨
    ((s.sched = [] ∨ ∃ rest, s.sched = .engine :: rest) ∧ s.phase = .reInh ∧ t.phase = .idle ∧
      t.hist = s.hist ++ [⟨.rdev, .event s.ev⟩]) ∨
    ((s.sched = [] ∨ ∃ rest, s.sched = .engine :: rest) ∧ s.phase = .wrInh ∧ t.phase = .idle ∧
      t.hist = s.hist ++ [⟨.wrb, .none⟩])

/-- Who writes what (10 R22, R23, R40, R45): without a reset, the pins and `cfg_valid` change only by an
accepted INIT word, which sets it; the Device's drives only by a Device step; the configuration and
the refusal mark never; the schedule loses the move taken. -/
def Obligations.ElementWriters : Prop :=
  ∀ s t : State, step s = .next t → (∀ rest, s.sched ≠ .reset :: rest) →
    ((t.cfgValid, t.clkPin, t.datPin) ≠ (s.cfgValid, s.clkPin, s.datPin) →
      ∃ w clk dat rest, s.sched = .caller w :: rest ∧ decode w = .ok (.init clk dat) ∧
        (t.cfgValid, t.clkPin, t.datPin) = (true, clk, dat)) ∧
    ((t.devClk, t.devDat) ≠ (s.devClk, s.devDat) →
      ∃ c d rest, s.sched = .device c d :: rest ∧ (t.devClk, t.devDat) = (c, d)) ∧
    t.cfg = s.cfg ∧ t.refused = s.refused ∧ t.sched = s.sched.tail

/-- A command in progress ends only by its own completion: without a reset the block leaves a busy phase
for IDLE only from RE_INH or WR_INH, with that command's record, and the end state of R125 (40 R93,
R125). -/
def Obligations.CommandEndsByCompletion : Prop :=
  ∀ s t : State, s.Inv → step s = .next t → (∀ rest, s.sched ≠ .reset :: rest) →
    s.phase ≠ .idle → t.phase = .idle →
    t.clkCtl = .driveLow ∧ t.datCtl = .inputPullup ∧ t.shreg = s.shreg ∧ t.bitIdx = s.bitIdx ∧
    t.ones = s.ones ∧ t.rdStage = s.rdStage ∧ t.ev = s.ev ∧
    ((s.phase = .reInh ∧ t.hist = s.hist ++ [⟨.rdev, .event s.ev⟩]) ∨
      (s.phase = .wrInh ∧ t.hist = s.hist ++ [⟨.wrb, .none⟩]))

/-- The end of a run (60 R179, R166): a run ends well exactly when it is not refused, has no fault, is
idle, and has issued and completed every command; a run that is refused, faulted or held and has no move
to come never ends well, in any number of steps; and runs do end well: from the launch of every
well-formed configuration, INIT with two distinct pins and then XLAT. That the commands still to be issued
are those of the schedule is the model's form (log 2). -/
def Obligations.NoEndWhileStuck : Prop :=
  (∀ (s : State) (program : List Instr), s.endsWell program ↔
    s.refused = false ∧ s.fault = none ∧ s.phase = .idle ∧ (∀ w, .caller w ∉ s.sched) ∧
      s.hist.map Record.command = program.map Instr.command) ∧
  (∀ (s : State) (program : List Instr) (n : Nat) (t : State),
    (s.refused = true ∨ s.fault ≠ none ∨ s.held = true) → s.sched = [] →
    runSteps n s = .next t → ¬ t.endsWell program) ∧
  (∀ (cfg : Config) (c d : Level) (clk dat : PinId) (ev : Int), cfg.wf = true → clk ≠ dat →
    eventInRange ev = true →
    ∃ t, runSteps 2 { State.launch cfg c d with
        sched := [.caller (encode (.init clk dat)), .caller (encode (.xlat ev))] } = .next t ∧
      t.endsWell [.init clk dat, .xlat ev])

/-- The values the launch gives to registers without a reset value are never seen: two states that
differ only in registers no later step can read answer every step alike, again up to such registers
(10 R44; 40 R125). This holds whatever those values are (log 5). -/
def Obligations.AbsentValuesNeverRead : Prop :=
  ∀ s t : State, s.eraseDead = t.eraseDead → eraseOutcome (step s) = eraseOutcome (step t)

/-- Four Engine steps after any point leave the Engine idle or held, unless contention stops it: the
schedule `keepUp` is the premise HOST_KEEPS_UP (40 R120). -/
def Obligations.KeepUpGrantsSuffice : Prop :=
  ∀ (s : State) (rest : List Move), s.live →
    s.sched = List.replicate keepUpGrants .engine ++ rest →
    match runSteps keepUpGrants s with
    | .next t => engineStep t = none ∧ t.sched = rest
    | .fault r => r = .halted .contention
    | .refused _ => False

/-- Under HOST_KEEPS_UP a frame with any start, parity and stop levels delivers the byte of its eight data
cells, at the script's last clock-high step and not before: the Engine then stands in RR_T1 with the
byte, CLK high, and its next step is `deliver` (40 R121, R124; 30 R73). The premise is a form of schedule
(log 12). -/
def Obligations.FrameDeliversByte : Prop :=
  ∀ (s : State) (b : Byte) (start parity stop : Level) (rest : List Move),
    s.live → s.phase = .rrS0 → s.clkCtl = .release → s.datCtl = .inputPullup → s.devClk = true →
    s.sched = keepUp (sendCells (frameCells start b parity stop)) ++ rest →
    ∃ u, runSteps 161 s = .next u ∧ u.phase = .rrT1 ∧ u.wireClk = true ∧ u.shreg = b ∧
      u.rdStage = s.rdStage ∧ u.hist = s.hist ∧ u.live ∧ step u = .next (u.popped.deliver b)

/-- RDEV under HOST_KEEPS_UP: from any idle configured state, the command word followed by the Device's
frames of one lead-in sequence completes with the event R79 gives that sequence, and leaves the bus
inhibited and the modifier flags alone (40 R104, R121; 30 R79); if it is the last command of its program,
the run ends well (60 R179). The premise is a form of schedule (log 12). -/
def Obligations.RdevReceivesSequence : Prop :=
  ∀ (s : State) (bytes : List Byte) (ev : Int) (rest : List Move),
    s.live → s.phase = .idle → s.cfgValid = true → s.contended = false → s.devClk = true →
    decodeSeq s.cfg bytes = some (ev, []) →
    s.sched = .caller 0x20000000 :: (List.replicate keepUpGrants .engine ++
      keepUp (bytes.flatMap devSend) ++ rest) →
    ∃ t, runSteps (5 + 170 * bytes.length) s = .next t ∧ t.phase = .idle ∧
      t.hist = s.hist ++ [⟨.rdev, .event ev⟩] ∧ t.clkCtl = .driveLow ∧ t.datCtl = .inputPullup ∧
      t.modShift = s.modShift ∧ t.modCtrl = s.modCtrl ∧ t.live ∧ t.sched = rest ∧
      ∀ program : List Instr, s.hist.map Record.command = program.map Instr.command →
        (∀ w, .caller w ∉ rest) → t.endsWell (program ++ [.rdev])

/-- WRB under HOST_KEEPS_UP with the reference reception: just after the k-th rising clock step the Device
reads cell k, the eight bits least significant first, an odd parity and a stop bit of 1, and the command
has completed after the tenth, before the Device's acknowledgment (40 R105, R119; 30 R74; 70 R190).
The premise is a form of schedule (log 12). -/
def Obligations.WrbSendsFrame : Prop :=
  ∀ (s : State) (b : Byte) (rest : List Move),
    s.live → s.phase = .idle → s.cfgValid = true → s.contended = false →
    s.devClk = true → s.devDat = true →
    s.sched = .caller (encode (.wrb b)) :: (List.replicate keepUpGrants .engine ++
      keepUp devRecv ++ rest) →
    (∀ (k : Nat) (v : Level), (dataCells b ++ [frameParity b, true])[k]? = some v →
      ∃ t, runSteps (10 * (k + 1) + 1) s = .next t ∧ t.wireClk = true ∧ t.wireDat = v ∧
        t.hist = s.hist) ∧
    (∃ t, runSteps 105 s = .next t ∧ t.phase = .idle ∧ t.hist = s.hist ++ [⟨.wrb, .none⟩] ∧
      t.clkCtl = .driveLow ∧ t.datCtl = .inputPullup ∧ t.live)
end

