-- ==== Sys2Proof/Laws/Decode.lean ====
section
/-! SUPPORT. The fields of a packed command word, and a word from its fields. -/

namespace Sys2Proof

theorem getLsbD_packWord (op : BitVec 3) (arg : Port) (i : Nat) :
    (packWord op arg).getLsbD i =
      if i < 16 then arg.getLsbD i else if i < 29 then false else op.getLsbD (i - 29) := by
  have h : (packWord op arg).getLsbD i = (op ++ (0#13 ++ arg)).getLsbD i := rfl
  rw [h, BitVec.getLsbD_append, BitVec.getLsbD_append]
  by_cases h1 : i < 16
  · simp [h1, show i < 13 + 16 by omega]
  · by_cases h2 : i < 29
    · simp [h1, h2]
    · simp [h1, h2]

@[simp] theorem opField_packWord (op : BitVec 3) (arg : Port) : opField (packWord op arg) = op := by
  apply BitVec.eq_of_getLsbD_eq
  intro i hi
  simp [opField, getLsbD_packWord, hi, show ¬ 29 + i < 16 by omega]

@[simp] theorem resField_packWord (op : BitVec 3) (arg : Port) : resField (packWord op arg) = 0 := by
  apply BitVec.eq_of_getLsbD_eq
  intro i hi
  simp [resField, BitVec.getLsbD_extractLsb', getLsbD_packWord, show ¬ 16 + i < 16 by omega,
    show 16 + i < 29 by omega]

@[simp] theorem argField_packWord (op : BitVec 3) (arg : Port) : argField (packWord op arg) = arg := by
  apply BitVec.eq_of_getLsbD_eq
  intro i hi
  simp [argField, getLsbD_packWord, hi]

@[simp] theorem argHigh_packWord (op : BitVec 3) (hi lo : Byte) :
    argHigh (packWord op (hi ++ lo)) = hi := by
  apply BitVec.eq_of_getLsbD_eq
  intro i h
  have e : (argHigh (packWord op (hi ++ lo))).getLsbD i = (hi ++ lo).getLsbD (8 + i) := by
    simp only [argHigh, BitVec.getLsbD_extractLsb', getLsbD_packWord, h,
      show 8 + i < 16 by omega, decide_true, Bool.true_and, if_true]
  rw [e, BitVec.getLsbD_append]
  simp

@[simp] theorem argLow_packWord (op : BitVec 3) (hi lo : Byte) :
    argLow (packWord op (hi ++ lo)) = lo := by
  apply BitVec.eq_of_getLsbD_eq
  intro i h
  have e : (argLow (packWord op (hi ++ lo))).getLsbD i = (hi ++ lo).getLsbD i := by
    simp only [argLow, BitVec.getLsbD_extractLsb', getLsbD_packWord, h, Nat.zero_add,
      show i < 16 by omega, decide_true, Bool.true_and, if_true]
  rw [e, BitVec.getLsbD_append]
  simp [h]

/-- A word with a zero reserved field is packed from its fields (R65). -/
theorem packWord_fields {w : Word} (h : resField w = 0) : packWord (opField w) (argField w) = w := by
  apply BitVec.eq_of_getLsbD_eq
  intro i hi
  rw [getLsbD_packWord]
  have hr : ∀ j, j < 13 → w.getLsbD (16 + j) = false := by
    intro j hj
    have := congrArg (fun v => v.getLsbD j) h
    simpa [resField, BitVec.getLsbD_extractLsb', hj] using this
  split
  · simp [argField, *]
  · split
    · rw [← hr (i - 16) (by omega), show 16 + (i - 16) = i by omega]
    · simp [opField, show i - 29 < 3 by omega,
        show 29 + (i - 29) = i by omega]

/-- The operand halves of a word (R67, R69). -/
theorem argField_eq_append (w : Word) : argField w = argHigh w ++ argLow w := by
  apply BitVec.eq_of_getLsbD_eq
  intro i hi
  simp only [argField, argHigh, argLow, BitVec.getLsbD_extractLsb', BitVec.getLsbD_append]
  by_cases h : i < 8
  · simp [h, show i < 16 by omega]
  · simp [h, hi, show i - 8 < 8 by omega, show 8 + (i - 8) = i by omega]

end Sys2Proof
end

