-- ==== Sys2Proof/Laws/PerInstr.lean ====
section
/-! SUPPORT. What is proved of every instruction as syntax, one lemma per constructor: the word of an
instruction has the opcode of its row and a zero reserved field (30_encoding R65, R66). -/

namespace Sys2Proof

/-- The `OP` value of a command (30 R66). -/
def opcodeOf : Command → BitVec 3
  | .init => 0
  | .rdev => 1
  | .wrb => 2
  | .xlat => 3

/-- The statement: opcode and reserved field of the instruction's word. -/
def Laws.WordFields.Statement (i : Instr) : Prop :=
  opField (encode i) = opcodeOf i.command ∧ resField (encode i) = 0

theorem Laws.WordFields.init (clk dat : PinId) : Laws.WordFields.Statement (.init clk dat) :=
  ⟨opField_packWord _ _, resField_packWord _ _⟩

theorem Laws.WordFields.rdev : Laws.WordFields.Statement .rdev :=
  ⟨opField_packWord _ _, resField_packWord _ _⟩

theorem Laws.WordFields.wrb (code : Byte) : Laws.WordFields.Statement (.wrb code) :=
  ⟨opField_packWord _ _, resField_packWord _ _⟩

theorem Laws.WordFields.xlat (ev : Int) : Laws.WordFields.Statement (.xlat ev) :=
  ⟨opField_packWord _ _, resField_packWord _ _⟩

end Sys2Proof
end

