-- ==== Sys2Proof/Laws/State.lean ====
section
/-! SUPPORT. One lemma per field for every named update of the state, so that no later proof unfolds a
record update. -/

namespace Sys2Proof.Machine

/-! ### `driveClkLow` -/

@[simp] theorem State.driveClkLow_cfgValid (s : State) : (s.driveClkLow).cfgValid = s.cfgValid := rfl
@[simp] theorem State.driveClkLow_clkPin (s : State) : (s.driveClkLow).clkPin = s.clkPin := rfl
@[simp] theorem State.driveClkLow_datPin (s : State) : (s.driveClkLow).datPin = s.datPin := rfl
@[simp] theorem State.driveClkLow_clkCtl (s : State) : (s.driveClkLow).clkCtl = .driveLow := rfl
@[simp] theorem State.driveClkLow_datCtl (s : State) : (s.driveClkLow).datCtl = s.datCtl := rfl
@[simp] theorem State.driveClkLow_datOut (s : State) : (s.driveClkLow).datOut = s.datOut := rfl
@[simp] theorem State.driveClkLow_phase (s : State) : (s.driveClkLow).phase = s.phase := rfl
@[simp] theorem State.driveClkLow_bitIdx (s : State) : (s.driveClkLow).bitIdx = s.bitIdx := rfl
@[simp] theorem State.driveClkLow_shreg (s : State) : (s.driveClkLow).shreg = s.shreg := rfl
@[simp] theorem State.driveClkLow_ones (s : State) : (s.driveClkLow).ones = s.ones := rfl
@[simp] theorem State.driveClkLow_rdStage (s : State) : (s.driveClkLow).rdStage = s.rdStage := rfl
@[simp] theorem State.driveClkLow_ev (s : State) : (s.driveClkLow).ev = s.ev := rfl
@[simp] theorem State.driveClkLow_modShift (s : State) : (s.driveClkLow).modShift = s.modShift := rfl
@[simp] theorem State.driveClkLow_modCtrl (s : State) : (s.driveClkLow).modCtrl = s.modCtrl := rfl
@[simp] theorem State.driveClkLow_devClk (s : State) : (s.driveClkLow).devClk = s.devClk := rfl
@[simp] theorem State.driveClkLow_devDat (s : State) : (s.driveClkLow).devDat = s.devDat := rfl
@[simp] theorem State.driveClkLow_fault (s : State) : (s.driveClkLow).fault = s.fault := rfl
@[simp] theorem State.driveClkLow_hist (s : State) : (s.driveClkLow).hist = s.hist := rfl
@[simp] theorem State.driveClkLow_refused (s : State) : (s.driveClkLow).refused = s.refused := rfl
@[simp] theorem State.driveClkLow_cfg (s : State) : (s.driveClkLow).cfg = s.cfg := rfl
@[simp] theorem State.driveClkLow_sched (s : State) : (s.driveClkLow).sched = s.sched := rfl

/-! ### `releaseClk` -/

@[simp] theorem State.releaseClk_cfgValid (s : State) : (s.releaseClk).cfgValid = s.cfgValid := rfl
@[simp] theorem State.releaseClk_clkPin (s : State) : (s.releaseClk).clkPin = s.clkPin := rfl
@[simp] theorem State.releaseClk_datPin (s : State) : (s.releaseClk).datPin = s.datPin := rfl
@[simp] theorem State.releaseClk_clkCtl (s : State) : (s.releaseClk).clkCtl = .release := rfl
@[simp] theorem State.releaseClk_datCtl (s : State) : (s.releaseClk).datCtl = s.datCtl := rfl
@[simp] theorem State.releaseClk_datOut (s : State) : (s.releaseClk).datOut = s.datOut := rfl
@[simp] theorem State.releaseClk_phase (s : State) : (s.releaseClk).phase = s.phase := rfl
@[simp] theorem State.releaseClk_bitIdx (s : State) : (s.releaseClk).bitIdx = s.bitIdx := rfl
@[simp] theorem State.releaseClk_shreg (s : State) : (s.releaseClk).shreg = s.shreg := rfl
@[simp] theorem State.releaseClk_ones (s : State) : (s.releaseClk).ones = s.ones := rfl
@[simp] theorem State.releaseClk_rdStage (s : State) : (s.releaseClk).rdStage = s.rdStage := rfl
@[simp] theorem State.releaseClk_ev (s : State) : (s.releaseClk).ev = s.ev := rfl
@[simp] theorem State.releaseClk_modShift (s : State) : (s.releaseClk).modShift = s.modShift := rfl
@[simp] theorem State.releaseClk_modCtrl (s : State) : (s.releaseClk).modCtrl = s.modCtrl := rfl
@[simp] theorem State.releaseClk_devClk (s : State) : (s.releaseClk).devClk = s.devClk := rfl
@[simp] theorem State.releaseClk_devDat (s : State) : (s.releaseClk).devDat = s.devDat := rfl
@[simp] theorem State.releaseClk_fault (s : State) : (s.releaseClk).fault = s.fault := rfl
@[simp] theorem State.releaseClk_hist (s : State) : (s.releaseClk).hist = s.hist := rfl
@[simp] theorem State.releaseClk_refused (s : State) : (s.releaseClk).refused = s.refused := rfl
@[simp] theorem State.releaseClk_cfg (s : State) : (s.releaseClk).cfg = s.cfg := rfl
@[simp] theorem State.releaseClk_sched (s : State) : (s.releaseClk).sched = s.sched := rfl

/-! ### `releaseDat` -/

@[simp] theorem State.releaseDat_cfgValid (s : State) : (s.releaseDat).cfgValid = s.cfgValid := rfl
@[simp] theorem State.releaseDat_clkPin (s : State) : (s.releaseDat).clkPin = s.clkPin := rfl
@[simp] theorem State.releaseDat_datPin (s : State) : (s.releaseDat).datPin = s.datPin := rfl
@[simp] theorem State.releaseDat_clkCtl (s : State) : (s.releaseDat).clkCtl = s.clkCtl := rfl
@[simp] theorem State.releaseDat_datCtl (s : State) : (s.releaseDat).datCtl = .inputPullup := rfl
@[simp] theorem State.releaseDat_datOut (s : State) : (s.releaseDat).datOut = s.datOut := rfl
@[simp] theorem State.releaseDat_phase (s : State) : (s.releaseDat).phase = s.phase := rfl
@[simp] theorem State.releaseDat_bitIdx (s : State) : (s.releaseDat).bitIdx = s.bitIdx := rfl
@[simp] theorem State.releaseDat_shreg (s : State) : (s.releaseDat).shreg = s.shreg := rfl
@[simp] theorem State.releaseDat_ones (s : State) : (s.releaseDat).ones = s.ones := rfl
@[simp] theorem State.releaseDat_rdStage (s : State) : (s.releaseDat).rdStage = s.rdStage := rfl
@[simp] theorem State.releaseDat_ev (s : State) : (s.releaseDat).ev = s.ev := rfl
@[simp] theorem State.releaseDat_modShift (s : State) : (s.releaseDat).modShift = s.modShift := rfl
@[simp] theorem State.releaseDat_modCtrl (s : State) : (s.releaseDat).modCtrl = s.modCtrl := rfl
@[simp] theorem State.releaseDat_devClk (s : State) : (s.releaseDat).devClk = s.devClk := rfl
@[simp] theorem State.releaseDat_devDat (s : State) : (s.releaseDat).devDat = s.devDat := rfl
@[simp] theorem State.releaseDat_fault (s : State) : (s.releaseDat).fault = s.fault := rfl
@[simp] theorem State.releaseDat_hist (s : State) : (s.releaseDat).hist = s.hist := rfl
@[simp] theorem State.releaseDat_refused (s : State) : (s.releaseDat).refused = s.refused := rfl
@[simp] theorem State.releaseDat_cfg (s : State) : (s.releaseDat).cfg = s.cfg := rfl
@[simp] theorem State.releaseDat_sched (s : State) : (s.releaseDat).sched = s.sched := rfl

/-! ### `claimDat` -/

@[simp] theorem State.claimDat_cfgValid (s : State) (v : Level) : (s.claimDat v).cfgValid = s.cfgValid := rfl
@[simp] theorem State.claimDat_clkPin (s : State) (v : Level) : (s.claimDat v).clkPin = s.clkPin := rfl
@[simp] theorem State.claimDat_datPin (s : State) (v : Level) : (s.claimDat v).datPin = s.datPin := rfl
@[simp] theorem State.claimDat_clkCtl (s : State) (v : Level) : (s.claimDat v).clkCtl = s.clkCtl := rfl
@[simp] theorem State.claimDat_datCtl (s : State) (v : Level) : (s.claimDat v).datCtl = .output := rfl
@[simp] theorem State.claimDat_datOut (s : State) (v : Level) : (s.claimDat v).datOut = v := rfl
@[simp] theorem State.claimDat_phase (s : State) (v : Level) : (s.claimDat v).phase = s.phase := rfl
@[simp] theorem State.claimDat_bitIdx (s : State) (v : Level) : (s.claimDat v).bitIdx = s.bitIdx := rfl
@[simp] theorem State.claimDat_shreg (s : State) (v : Level) : (s.claimDat v).shreg = s.shreg := rfl
@[simp] theorem State.claimDat_ones (s : State) (v : Level) : (s.claimDat v).ones = s.ones := rfl
@[simp] theorem State.claimDat_rdStage (s : State) (v : Level) : (s.claimDat v).rdStage = s.rdStage := rfl
@[simp] theorem State.claimDat_ev (s : State) (v : Level) : (s.claimDat v).ev = s.ev := rfl
@[simp] theorem State.claimDat_modShift (s : State) (v : Level) : (s.claimDat v).modShift = s.modShift := rfl
@[simp] theorem State.claimDat_modCtrl (s : State) (v : Level) : (s.claimDat v).modCtrl = s.modCtrl := rfl
@[simp] theorem State.claimDat_devClk (s : State) (v : Level) : (s.claimDat v).devClk = s.devClk := rfl
@[simp] theorem State.claimDat_devDat (s : State) (v : Level) : (s.claimDat v).devDat = s.devDat := rfl
@[simp] theorem State.claimDat_fault (s : State) (v : Level) : (s.claimDat v).fault = s.fault := rfl
@[simp] theorem State.claimDat_hist (s : State) (v : Level) : (s.claimDat v).hist = s.hist := rfl
@[simp] theorem State.claimDat_refused (s : State) (v : Level) : (s.claimDat v).refused = s.refused := rfl
@[simp] theorem State.claimDat_cfg (s : State) (v : Level) : (s.claimDat v).cfg = s.cfg := rfl
@[simp] theorem State.claimDat_sched (s : State) (v : Level) : (s.claimDat v).sched = s.sched := rfl

/-! ### `driveDat` -/

@[simp] theorem State.driveDat_cfgValid (s : State) (v : Level) : (s.driveDat v).cfgValid = s.cfgValid := rfl
@[simp] theorem State.driveDat_clkPin (s : State) (v : Level) : (s.driveDat v).clkPin = s.clkPin := rfl
@[simp] theorem State.driveDat_datPin (s : State) (v : Level) : (s.driveDat v).datPin = s.datPin := rfl
@[simp] theorem State.driveDat_clkCtl (s : State) (v : Level) : (s.driveDat v).clkCtl = s.clkCtl := rfl
@[simp] theorem State.driveDat_datCtl (s : State) (v : Level) : (s.driveDat v).datCtl = s.datCtl := rfl
@[simp] theorem State.driveDat_datOut (s : State) (v : Level) : (s.driveDat v).datOut = v := rfl
@[simp] theorem State.driveDat_phase (s : State) (v : Level) : (s.driveDat v).phase = s.phase := rfl
@[simp] theorem State.driveDat_bitIdx (s : State) (v : Level) : (s.driveDat v).bitIdx = s.bitIdx := rfl
@[simp] theorem State.driveDat_shreg (s : State) (v : Level) : (s.driveDat v).shreg = s.shreg := rfl
@[simp] theorem State.driveDat_ones (s : State) (v : Level) : (s.driveDat v).ones = s.ones := rfl
@[simp] theorem State.driveDat_rdStage (s : State) (v : Level) : (s.driveDat v).rdStage = s.rdStage := rfl
@[simp] theorem State.driveDat_ev (s : State) (v : Level) : (s.driveDat v).ev = s.ev := rfl
@[simp] theorem State.driveDat_modShift (s : State) (v : Level) : (s.driveDat v).modShift = s.modShift := rfl
@[simp] theorem State.driveDat_modCtrl (s : State) (v : Level) : (s.driveDat v).modCtrl = s.modCtrl := rfl
@[simp] theorem State.driveDat_devClk (s : State) (v : Level) : (s.driveDat v).devClk = s.devClk := rfl
@[simp] theorem State.driveDat_devDat (s : State) (v : Level) : (s.driveDat v).devDat = s.devDat := rfl
@[simp] theorem State.driveDat_fault (s : State) (v : Level) : (s.driveDat v).fault = s.fault := rfl
@[simp] theorem State.driveDat_hist (s : State) (v : Level) : (s.driveDat v).hist = s.hist := rfl
@[simp] theorem State.driveDat_refused (s : State) (v : Level) : (s.driveDat v).refused = s.refused := rfl
@[simp] theorem State.driveDat_cfg (s : State) (v : Level) : (s.driveDat v).cfg = s.cfg := rfl
@[simp] theorem State.driveDat_sched (s : State) (v : Level) : (s.driveDat v).sched = s.sched := rfl

/-! ### `setDevice` -/

@[simp] theorem State.setDevice_cfgValid (s : State) (c d : Level) : (s.setDevice c d).cfgValid = s.cfgValid := rfl
@[simp] theorem State.setDevice_clkPin (s : State) (c d : Level) : (s.setDevice c d).clkPin = s.clkPin := rfl
@[simp] theorem State.setDevice_datPin (s : State) (c d : Level) : (s.setDevice c d).datPin = s.datPin := rfl
@[simp] theorem State.setDevice_clkCtl (s : State) (c d : Level) : (s.setDevice c d).clkCtl = s.clkCtl := rfl
@[simp] theorem State.setDevice_datCtl (s : State) (c d : Level) : (s.setDevice c d).datCtl = s.datCtl := rfl
@[simp] theorem State.setDevice_datOut (s : State) (c d : Level) : (s.setDevice c d).datOut = s.datOut := rfl
@[simp] theorem State.setDevice_phase (s : State) (c d : Level) : (s.setDevice c d).phase = s.phase := rfl
@[simp] theorem State.setDevice_bitIdx (s : State) (c d : Level) : (s.setDevice c d).bitIdx = s.bitIdx := rfl
@[simp] theorem State.setDevice_shreg (s : State) (c d : Level) : (s.setDevice c d).shreg = s.shreg := rfl
@[simp] theorem State.setDevice_ones (s : State) (c d : Level) : (s.setDevice c d).ones = s.ones := rfl
@[simp] theorem State.setDevice_rdStage (s : State) (c d : Level) : (s.setDevice c d).rdStage = s.rdStage := rfl
@[simp] theorem State.setDevice_ev (s : State) (c d : Level) : (s.setDevice c d).ev = s.ev := rfl
@[simp] theorem State.setDevice_modShift (s : State) (c d : Level) : (s.setDevice c d).modShift = s.modShift := rfl
@[simp] theorem State.setDevice_modCtrl (s : State) (c d : Level) : (s.setDevice c d).modCtrl = s.modCtrl := rfl
@[simp] theorem State.setDevice_devClk (s : State) (c d : Level) : (s.setDevice c d).devClk = c := rfl
@[simp] theorem State.setDevice_devDat (s : State) (c d : Level) : (s.setDevice c d).devDat = d := rfl
@[simp] theorem State.setDevice_fault (s : State) (c d : Level) : (s.setDevice c d).fault = s.fault := rfl
@[simp] theorem State.setDevice_hist (s : State) (c d : Level) : (s.setDevice c d).hist = s.hist := rfl
@[simp] theorem State.setDevice_refused (s : State) (c d : Level) : (s.setDevice c d).refused = s.refused := rfl
@[simp] theorem State.setDevice_cfg (s : State) (c d : Level) : (s.setDevice c d).cfg = s.cfg := rfl
@[simp] theorem State.setDevice_sched (s : State) (c d : Level) : (s.setDevice c d).sched = s.sched := rfl

/-! ### `goto` -/

@[simp] theorem State.goto_cfgValid (s : State) (p : Phase) : (s.goto p).cfgValid = s.cfgValid := rfl
@[simp] theorem State.goto_clkPin (s : State) (p : Phase) : (s.goto p).clkPin = s.clkPin := rfl
@[simp] theorem State.goto_datPin (s : State) (p : Phase) : (s.goto p).datPin = s.datPin := rfl
@[simp] theorem State.goto_clkCtl (s : State) (p : Phase) : (s.goto p).clkCtl = s.clkCtl := rfl
@[simp] theorem State.goto_datCtl (s : State) (p : Phase) : (s.goto p).datCtl = s.datCtl := rfl
@[simp] theorem State.goto_datOut (s : State) (p : Phase) : (s.goto p).datOut = s.datOut := rfl
@[simp] theorem State.goto_phase (s : State) (p : Phase) : (s.goto p).phase = p := rfl
@[simp] theorem State.goto_bitIdx (s : State) (p : Phase) : (s.goto p).bitIdx = s.bitIdx := rfl
@[simp] theorem State.goto_shreg (s : State) (p : Phase) : (s.goto p).shreg = s.shreg := rfl
@[simp] theorem State.goto_ones (s : State) (p : Phase) : (s.goto p).ones = s.ones := rfl
@[simp] theorem State.goto_rdStage (s : State) (p : Phase) : (s.goto p).rdStage = s.rdStage := rfl
@[simp] theorem State.goto_ev (s : State) (p : Phase) : (s.goto p).ev = s.ev := rfl
@[simp] theorem State.goto_modShift (s : State) (p : Phase) : (s.goto p).modShift = s.modShift := rfl
@[simp] theorem State.goto_modCtrl (s : State) (p : Phase) : (s.goto p).modCtrl = s.modCtrl := rfl
@[simp] theorem State.goto_devClk (s : State) (p : Phase) : (s.goto p).devClk = s.devClk := rfl
@[simp] theorem State.goto_devDat (s : State) (p : Phase) : (s.goto p).devDat = s.devDat := rfl
@[simp] theorem State.goto_fault (s : State) (p : Phase) : (s.goto p).fault = s.fault := rfl
@[simp] theorem State.goto_hist (s : State) (p : Phase) : (s.goto p).hist = s.hist := rfl
@[simp] theorem State.goto_refused (s : State) (p : Phase) : (s.goto p).refused = s.refused := rfl
@[simp] theorem State.goto_cfg (s : State) (p : Phase) : (s.goto p).cfg = s.cfg := rfl
@[simp] theorem State.goto_sched (s : State) (p : Phase) : (s.goto p).sched = s.sched := rfl

/-! ### `complete` -/

@[simp] theorem State.complete_cfgValid (s : State) (k : Command) (v : Value) : (s.complete k v).cfgValid = s.cfgValid := rfl
@[simp] theorem State.complete_clkPin (s : State) (k : Command) (v : Value) : (s.complete k v).clkPin = s.clkPin := rfl
@[simp] theorem State.complete_datPin (s : State) (k : Command) (v : Value) : (s.complete k v).datPin = s.datPin := rfl
@[simp] theorem State.complete_clkCtl (s : State) (k : Command) (v : Value) : (s.complete k v).clkCtl = s.clkCtl := rfl
@[simp] theorem State.complete_datCtl (s : State) (k : Command) (v : Value) : (s.complete k v).datCtl = s.datCtl := rfl
@[simp] theorem State.complete_datOut (s : State) (k : Command) (v : Value) : (s.complete k v).datOut = s.datOut := rfl
@[simp] theorem State.complete_phase (s : State) (k : Command) (v : Value) : (s.complete k v).phase = .idle := rfl
@[simp] theorem State.complete_bitIdx (s : State) (k : Command) (v : Value) : (s.complete k v).bitIdx = s.bitIdx := rfl
@[simp] theorem State.complete_shreg (s : State) (k : Command) (v : Value) : (s.complete k v).shreg = s.shreg := rfl
@[simp] theorem State.complete_ones (s : State) (k : Command) (v : Value) : (s.complete k v).ones = s.ones := rfl
@[simp] theorem State.complete_rdStage (s : State) (k : Command) (v : Value) : (s.complete k v).rdStage = s.rdStage := rfl
@[simp] theorem State.complete_ev (s : State) (k : Command) (v : Value) : (s.complete k v).ev = s.ev := rfl
@[simp] theorem State.complete_modShift (s : State) (k : Command) (v : Value) : (s.complete k v).modShift = s.modShift := rfl
@[simp] theorem State.complete_modCtrl (s : State) (k : Command) (v : Value) : (s.complete k v).modCtrl = s.modCtrl := rfl
@[simp] theorem State.complete_devClk (s : State) (k : Command) (v : Value) : (s.complete k v).devClk = s.devClk := rfl
@[simp] theorem State.complete_devDat (s : State) (k : Command) (v : Value) : (s.complete k v).devDat = s.devDat := rfl
@[simp] theorem State.complete_fault (s : State) (k : Command) (v : Value) : (s.complete k v).fault = s.fault := rfl
@[simp] theorem State.complete_hist (s : State) (k : Command) (v : Value) : (s.complete k v).hist = s.hist ++ [⟨k, v⟩] := rfl
@[simp] theorem State.complete_refused (s : State) (k : Command) (v : Value) : (s.complete k v).refused = s.refused := rfl
@[simp] theorem State.complete_cfg (s : State) (k : Command) (v : Value) : (s.complete k v).cfg = s.cfg := rfl
@[simp] theorem State.complete_sched (s : State) (k : Command) (v : Value) : (s.complete k v).sched = s.sched := rfl

/-! ### `completeXlat` -/

@[simp] theorem State.completeXlat_cfgValid (s : State) (r : Result) : (s.completeXlat r).cfgValid = s.cfgValid := rfl
@[simp] theorem State.completeXlat_clkPin (s : State) (r : Result) : (s.completeXlat r).clkPin = s.clkPin := rfl
@[simp] theorem State.completeXlat_datPin (s : State) (r : Result) : (s.completeXlat r).datPin = s.datPin := rfl
@[simp] theorem State.completeXlat_clkCtl (s : State) (r : Result) : (s.completeXlat r).clkCtl = s.clkCtl := rfl
@[simp] theorem State.completeXlat_datCtl (s : State) (r : Result) : (s.completeXlat r).datCtl = s.datCtl := rfl
@[simp] theorem State.completeXlat_datOut (s : State) (r : Result) : (s.completeXlat r).datOut = s.datOut := rfl
@[simp] theorem State.completeXlat_phase (s : State) (r : Result) : (s.completeXlat r).phase = .idle := rfl
@[simp] theorem State.completeXlat_bitIdx (s : State) (r : Result) : (s.completeXlat r).bitIdx = s.bitIdx := rfl
@[simp] theorem State.completeXlat_shreg (s : State) (r : Result) : (s.completeXlat r).shreg = s.shreg := rfl
@[simp] theorem State.completeXlat_ones (s : State) (r : Result) : (s.completeXlat r).ones = s.ones := rfl
@[simp] theorem State.completeXlat_rdStage (s : State) (r : Result) : (s.completeXlat r).rdStage = s.rdStage := rfl
@[simp] theorem State.completeXlat_ev (s : State) (r : Result) : (s.completeXlat r).ev = s.ev := rfl
@[simp] theorem State.completeXlat_modShift (s : State) (r : Result) : (s.completeXlat r).modShift = s.modShift := rfl
@[simp] theorem State.completeXlat_modCtrl (s : State) (r : Result) : (s.completeXlat r).modCtrl = s.modCtrl := rfl
@[simp] theorem State.completeXlat_devClk (s : State) (r : Result) : (s.completeXlat r).devClk = s.devClk := rfl
@[simp] theorem State.completeXlat_devDat (s : State) (r : Result) : (s.completeXlat r).devDat = s.devDat := rfl
@[simp] theorem State.completeXlat_fault (s : State) (r : Result) : (s.completeXlat r).fault = s.fault := rfl
@[simp] theorem State.completeXlat_hist (s : State) (r : Result) : (s.completeXlat r).hist = s.hist ++ [⟨.xlat, .result r⟩] := rfl
@[simp] theorem State.completeXlat_refused (s : State) (r : Result) : (s.completeXlat r).refused = s.refused := rfl
@[simp] theorem State.completeXlat_cfg (s : State) (r : Result) : (s.completeXlat r).cfg = s.cfg := rfl
@[simp] theorem State.completeXlat_sched (s : State) (r : Result) : (s.completeXlat r).sched = s.sched := rfl

/-! ### `raise` -/

@[simp] theorem State.raise_cfgValid (s : State) (code : FaultCode) : (s.raise code).cfgValid = s.cfgValid := rfl
@[simp] theorem State.raise_clkPin (s : State) (code : FaultCode) : (s.raise code).clkPin = s.clkPin := rfl
@[simp] theorem State.raise_datPin (s : State) (code : FaultCode) : (s.raise code).datPin = s.datPin := rfl
@[simp] theorem State.raise_clkCtl (s : State) (code : FaultCode) : (s.raise code).clkCtl = s.clkCtl := rfl
@[simp] theorem State.raise_datCtl (s : State) (code : FaultCode) : (s.raise code).datCtl = s.datCtl := rfl
@[simp] theorem State.raise_datOut (s : State) (code : FaultCode) : (s.raise code).datOut = s.datOut := rfl
@[simp] theorem State.raise_phase (s : State) (code : FaultCode) : (s.raise code).phase = s.phase := rfl
@[simp] theorem State.raise_bitIdx (s : State) (code : FaultCode) : (s.raise code).bitIdx = s.bitIdx := rfl
@[simp] theorem State.raise_shreg (s : State) (code : FaultCode) : (s.raise code).shreg = s.shreg := rfl
@[simp] theorem State.raise_ones (s : State) (code : FaultCode) : (s.raise code).ones = s.ones := rfl
@[simp] theorem State.raise_rdStage (s : State) (code : FaultCode) : (s.raise code).rdStage = s.rdStage := rfl
@[simp] theorem State.raise_ev (s : State) (code : FaultCode) : (s.raise code).ev = s.ev := rfl
@[simp] theorem State.raise_modShift (s : State) (code : FaultCode) : (s.raise code).modShift = s.modShift := rfl
@[simp] theorem State.raise_modCtrl (s : State) (code : FaultCode) : (s.raise code).modCtrl = s.modCtrl := rfl
@[simp] theorem State.raise_devClk (s : State) (code : FaultCode) : (s.raise code).devClk = s.devClk := rfl
@[simp] theorem State.raise_devDat (s : State) (code : FaultCode) : (s.raise code).devDat = s.devDat := rfl
@[simp] theorem State.raise_fault (s : State) (code : FaultCode) : (s.raise code).fault = some code := rfl
@[simp] theorem State.raise_hist (s : State) (code : FaultCode) : (s.raise code).hist = s.hist := rfl
@[simp] theorem State.raise_refused (s : State) (code : FaultCode) : (s.raise code).refused = s.refused := rfl
@[simp] theorem State.raise_cfg (s : State) (code : FaultCode) : (s.raise code).cfg = s.cfg := rfl
@[simp] theorem State.raise_sched (s : State) (code : FaultCode) : (s.raise code).sched = s.sched := rfl

/-! ### `bindPins` -/

@[simp] theorem State.bindPins_cfgValid (s : State) (a b : PinId) : (s.bindPins a b).cfgValid = true := rfl
@[simp] theorem State.bindPins_clkPin (s : State) (a b : PinId) : (s.bindPins a b).clkPin = a := rfl
@[simp] theorem State.bindPins_datPin (s : State) (a b : PinId) : (s.bindPins a b).datPin = b := rfl
@[simp] theorem State.bindPins_clkCtl (s : State) (a b : PinId) : (s.bindPins a b).clkCtl = s.clkCtl := rfl
@[simp] theorem State.bindPins_datCtl (s : State) (a b : PinId) : (s.bindPins a b).datCtl = s.datCtl := rfl
@[simp] theorem State.bindPins_datOut (s : State) (a b : PinId) : (s.bindPins a b).datOut = s.datOut := rfl
@[simp] theorem State.bindPins_phase (s : State) (a b : PinId) : (s.bindPins a b).phase = s.phase := rfl
@[simp] theorem State.bindPins_bitIdx (s : State) (a b : PinId) : (s.bindPins a b).bitIdx = s.bitIdx := rfl
@[simp] theorem State.bindPins_shreg (s : State) (a b : PinId) : (s.bindPins a b).shreg = s.shreg := rfl
@[simp] theorem State.bindPins_ones (s : State) (a b : PinId) : (s.bindPins a b).ones = s.ones := rfl
@[simp] theorem State.bindPins_rdStage (s : State) (a b : PinId) : (s.bindPins a b).rdStage = s.rdStage := rfl
@[simp] theorem State.bindPins_ev (s : State) (a b : PinId) : (s.bindPins a b).ev = s.ev := rfl
@[simp] theorem State.bindPins_modShift (s : State) (a b : PinId) : (s.bindPins a b).modShift = s.modShift := rfl
@[simp] theorem State.bindPins_modCtrl (s : State) (a b : PinId) : (s.bindPins a b).modCtrl = s.modCtrl := rfl
@[simp] theorem State.bindPins_devClk (s : State) (a b : PinId) : (s.bindPins a b).devClk = s.devClk := rfl
@[simp] theorem State.bindPins_devDat (s : State) (a b : PinId) : (s.bindPins a b).devDat = s.devDat := rfl
@[simp] theorem State.bindPins_fault (s : State) (a b : PinId) : (s.bindPins a b).fault = s.fault := rfl
@[simp] theorem State.bindPins_hist (s : State) (a b : PinId) : (s.bindPins a b).hist = s.hist := rfl
@[simp] theorem State.bindPins_refused (s : State) (a b : PinId) : (s.bindPins a b).refused = s.refused := rfl
@[simp] theorem State.bindPins_cfg (s : State) (a b : PinId) : (s.bindPins a b).cfg = s.cfg := rfl
@[simp] theorem State.bindPins_sched (s : State) (a b : PinId) : (s.bindPins a b).sched = s.sched := rfl

/-! ### `nextByte` -/

@[simp] theorem State.nextByte_cfgValid (s : State) (g : RdStage) : (s.nextByte g).cfgValid = s.cfgValid := rfl
@[simp] theorem State.nextByte_clkPin (s : State) (g : RdStage) : (s.nextByte g).clkPin = s.clkPin := rfl
@[simp] theorem State.nextByte_datPin (s : State) (g : RdStage) : (s.nextByte g).datPin = s.datPin := rfl
@[simp] theorem State.nextByte_clkCtl (s : State) (g : RdStage) : (s.nextByte g).clkCtl = s.clkCtl := rfl
@[simp] theorem State.nextByte_datCtl (s : State) (g : RdStage) : (s.nextByte g).datCtl = s.datCtl := rfl
@[simp] theorem State.nextByte_datOut (s : State) (g : RdStage) : (s.nextByte g).datOut = s.datOut := rfl
@[simp] theorem State.nextByte_phase (s : State) (g : RdStage) : (s.nextByte g).phase = .rrS0 := rfl
@[simp] theorem State.nextByte_bitIdx (s : State) (g : RdStage) : (s.nextByte g).bitIdx = s.bitIdx := rfl
@[simp] theorem State.nextByte_shreg (s : State) (g : RdStage) : (s.nextByte g).shreg = s.shreg := rfl
@[simp] theorem State.nextByte_ones (s : State) (g : RdStage) : (s.nextByte g).ones = s.ones := rfl
@[simp] theorem State.nextByte_rdStage (s : State) (g : RdStage) : (s.nextByte g).rdStage = g := rfl
@[simp] theorem State.nextByte_ev (s : State) (g : RdStage) : (s.nextByte g).ev = s.ev := rfl
@[simp] theorem State.nextByte_modShift (s : State) (g : RdStage) : (s.nextByte g).modShift = s.modShift := rfl
@[simp] theorem State.nextByte_modCtrl (s : State) (g : RdStage) : (s.nextByte g).modCtrl = s.modCtrl := rfl
@[simp] theorem State.nextByte_devClk (s : State) (g : RdStage) : (s.nextByte g).devClk = s.devClk := rfl
@[simp] theorem State.nextByte_devDat (s : State) (g : RdStage) : (s.nextByte g).devDat = s.devDat := rfl
@[simp] theorem State.nextByte_fault (s : State) (g : RdStage) : (s.nextByte g).fault = s.fault := rfl
@[simp] theorem State.nextByte_hist (s : State) (g : RdStage) : (s.nextByte g).hist = s.hist := rfl
@[simp] theorem State.nextByte_refused (s : State) (g : RdStage) : (s.nextByte g).refused = s.refused := rfl
@[simp] theorem State.nextByte_cfg (s : State) (g : RdStage) : (s.nextByte g).cfg = s.cfg := rfl
@[simp] theorem State.nextByte_sched (s : State) (g : RdStage) : (s.nextByte g).sched = s.sched := rfl

/-! ### `deliverEvent` -/

@[simp] theorem State.deliverEvent_cfgValid (s : State) (e : Int) : (s.deliverEvent e).cfgValid = s.cfgValid := rfl
@[simp] theorem State.deliverEvent_clkPin (s : State) (e : Int) : (s.deliverEvent e).clkPin = s.clkPin := rfl
@[simp] theorem State.deliverEvent_datPin (s : State) (e : Int) : (s.deliverEvent e).datPin = s.datPin := rfl
@[simp] theorem State.deliverEvent_clkCtl (s : State) (e : Int) : (s.deliverEvent e).clkCtl = s.clkCtl := rfl
@[simp] theorem State.deliverEvent_datCtl (s : State) (e : Int) : (s.deliverEvent e).datCtl = s.datCtl := rfl
@[simp] theorem State.deliverEvent_datOut (s : State) (e : Int) : (s.deliverEvent e).datOut = s.datOut := rfl
@[simp] theorem State.deliverEvent_phase (s : State) (e : Int) : (s.deliverEvent e).phase = .reInh := rfl
@[simp] theorem State.deliverEvent_bitIdx (s : State) (e : Int) : (s.deliverEvent e).bitIdx = s.bitIdx := rfl
@[simp] theorem State.deliverEvent_shreg (s : State) (e : Int) : (s.deliverEvent e).shreg = s.shreg := rfl
@[simp] theorem State.deliverEvent_ones (s : State) (e : Int) : (s.deliverEvent e).ones = s.ones := rfl
@[simp] theorem State.deliverEvent_rdStage (s : State) (e : Int) : (s.deliverEvent e).rdStage = s.rdStage := rfl
@[simp] theorem State.deliverEvent_ev (s : State) (e : Int) : (s.deliverEvent e).ev = e := rfl
@[simp] theorem State.deliverEvent_modShift (s : State) (e : Int) : (s.deliverEvent e).modShift = s.modShift := rfl
@[simp] theorem State.deliverEvent_modCtrl (s : State) (e : Int) : (s.deliverEvent e).modCtrl = s.modCtrl := rfl
@[simp] theorem State.deliverEvent_devClk (s : State) (e : Int) : (s.deliverEvent e).devClk = s.devClk := rfl
@[simp] theorem State.deliverEvent_devDat (s : State) (e : Int) : (s.deliverEvent e).devDat = s.devDat := rfl
@[simp] theorem State.deliverEvent_fault (s : State) (e : Int) : (s.deliverEvent e).fault = s.fault := rfl
@[simp] theorem State.deliverEvent_hist (s : State) (e : Int) : (s.deliverEvent e).hist = s.hist := rfl
@[simp] theorem State.deliverEvent_refused (s : State) (e : Int) : (s.deliverEvent e).refused = s.refused := rfl
@[simp] theorem State.deliverEvent_cfg (s : State) (e : Int) : (s.deliverEvent e).cfg = s.cfg := rfl
@[simp] theorem State.deliverEvent_sched (s : State) (e : Int) : (s.deliverEvent e).sched = s.sched := rfl

/-! ### `popped` -/

@[simp] theorem State.popped_cfgValid (s : State) : (s.popped).cfgValid = s.cfgValid := rfl
@[simp] theorem State.popped_clkPin (s : State) : (s.popped).clkPin = s.clkPin := rfl
@[simp] theorem State.popped_datPin (s : State) : (s.popped).datPin = s.datPin := rfl
@[simp] theorem State.popped_clkCtl (s : State) : (s.popped).clkCtl = s.clkCtl := rfl
@[simp] theorem State.popped_datCtl (s : State) : (s.popped).datCtl = s.datCtl := rfl
@[simp] theorem State.popped_datOut (s : State) : (s.popped).datOut = s.datOut := rfl
@[simp] theorem State.popped_phase (s : State) : (s.popped).phase = s.phase := rfl
@[simp] theorem State.popped_bitIdx (s : State) : (s.popped).bitIdx = s.bitIdx := rfl
@[simp] theorem State.popped_shreg (s : State) : (s.popped).shreg = s.shreg := rfl
@[simp] theorem State.popped_ones (s : State) : (s.popped).ones = s.ones := rfl
@[simp] theorem State.popped_rdStage (s : State) : (s.popped).rdStage = s.rdStage := rfl
@[simp] theorem State.popped_ev (s : State) : (s.popped).ev = s.ev := rfl
@[simp] theorem State.popped_modShift (s : State) : (s.popped).modShift = s.modShift := rfl
@[simp] theorem State.popped_modCtrl (s : State) : (s.popped).modCtrl = s.modCtrl := rfl
@[simp] theorem State.popped_devClk (s : State) : (s.popped).devClk = s.devClk := rfl
@[simp] theorem State.popped_devDat (s : State) : (s.popped).devDat = s.devDat := rfl
@[simp] theorem State.popped_fault (s : State) : (s.popped).fault = s.fault := rfl
@[simp] theorem State.popped_hist (s : State) : (s.popped).hist = s.hist := rfl
@[simp] theorem State.popped_refused (s : State) : (s.popped).refused = s.refused := rfl
@[simp] theorem State.popped_cfg (s : State) : (s.popped).cfg = s.cfg := rfl
@[simp] theorem State.popped_sched (s : State) : (s.popped).sched = s.sched.tail := rfl

/-! ### `setModifier` -/

@[simp] theorem State.setModifier_cfgValid (s : State) (m : Modifier) (v : Bool) :
    (s.setModifier m v).cfgValid = s.cfgValid := by cases m <;> rfl
@[simp] theorem State.setModifier_clkPin (s : State) (m : Modifier) (v : Bool) :
    (s.setModifier m v).clkPin = s.clkPin := by cases m <;> rfl
@[simp] theorem State.setModifier_datPin (s : State) (m : Modifier) (v : Bool) :
    (s.setModifier m v).datPin = s.datPin := by cases m <;> rfl
@[simp] theorem State.setModifier_clkCtl (s : State) (m : Modifier) (v : Bool) :
    (s.setModifier m v).clkCtl = s.clkCtl := by cases m <;> rfl
@[simp] theorem State.setModifier_datCtl (s : State) (m : Modifier) (v : Bool) :
    (s.setModifier m v).datCtl = s.datCtl := by cases m <;> rfl
@[simp] theorem State.setModifier_datOut (s : State) (m : Modifier) (v : Bool) :
    (s.setModifier m v).datOut = s.datOut := by cases m <;> rfl
@[simp] theorem State.setModifier_phase (s : State) (m : Modifier) (v : Bool) :
    (s.setModifier m v).phase = s.phase := by cases m <;> rfl
@[simp] theorem State.setModifier_bitIdx (s : State) (m : Modifier) (v : Bool) :
    (s.setModifier m v).bitIdx = s.bitIdx := by cases m <;> rfl
@[simp] theorem State.setModifier_shreg (s : State) (m : Modifier) (v : Bool) :
    (s.setModifier m v).shreg = s.shreg := by cases m <;> rfl
@[simp] theorem State.setModifier_ones (s : State) (m : Modifier) (v : Bool) :
    (s.setModifier m v).ones = s.ones := by cases m <;> rfl
@[simp] theorem State.setModifier_rdStage (s : State) (m : Modifier) (v : Bool) :
    (s.setModifier m v).rdStage = s.rdStage := by cases m <;> rfl
@[simp] theorem State.setModifier_ev (s : State) (m : Modifier) (v : Bool) :
    (s.setModifier m v).ev = s.ev := by cases m <;> rfl
@[simp] theorem State.setModifier_devClk (s : State) (m : Modifier) (v : Bool) :
    (s.setModifier m v).devClk = s.devClk := by cases m <;> rfl
@[simp] theorem State.setModifier_devDat (s : State) (m : Modifier) (v : Bool) :
    (s.setModifier m v).devDat = s.devDat := by cases m <;> rfl
@[simp] theorem State.setModifier_fault (s : State) (m : Modifier) (v : Bool) :
    (s.setModifier m v).fault = s.fault := by cases m <;> rfl
@[simp] theorem State.setModifier_hist (s : State) (m : Modifier) (v : Bool) :
    (s.setModifier m v).hist = s.hist := by cases m <;> rfl
@[simp] theorem State.setModifier_refused (s : State) (m : Modifier) (v : Bool) :
    (s.setModifier m v).refused = s.refused := by cases m <;> rfl
@[simp] theorem State.setModifier_cfg (s : State) (m : Modifier) (v : Bool) :
    (s.setModifier m v).cfg = s.cfg := by cases m <;> rfl
@[simp] theorem State.setModifier_sched (s : State) (m : Modifier) (v : Bool) :
    (s.setModifier m v).sched = s.sched := by cases m <;> rfl
@[simp] theorem State.setModifier_shift_modShift (s : State) (v : Bool) :
    (s.setModifier .shift v).modShift = v := rfl
@[simp] theorem State.setModifier_shift_modCtrl (s : State) (v : Bool) :
    (s.setModifier .shift v).modCtrl = s.modCtrl := rfl
@[simp] theorem State.setModifier_ctrl_modShift (s : State) (v : Bool) :
    (s.setModifier .ctrl v).modShift = s.modShift := rfl
@[simp] theorem State.setModifier_ctrl_modCtrl (s : State) (v : Bool) :
    (s.setModifier .ctrl v).modCtrl = v := rfl

/-! ### `checkContention`: only the fault mark can change -/

theorem State.checkContention_eq (s : State) :
    s.checkContention = if s.fault = none ∧ s.contended = true then s.raise .contention else s := by
  unfold State.checkContention
  split <;> rename_i h
  · simp [h]
  · cases hc : s.contended <;> simp [h]

@[simp] theorem State.checkContention_cfgValid (s : State) : s.checkContention.cfgValid = s.cfgValid := by
  rw [State.checkContention_eq]; split <;> rfl
@[simp] theorem State.checkContention_clkPin (s : State) : s.checkContention.clkPin = s.clkPin := by
  rw [State.checkContention_eq]; split <;> rfl
@[simp] theorem State.checkContention_datPin (s : State) : s.checkContention.datPin = s.datPin := by
  rw [State.checkContention_eq]; split <;> rfl
@[simp] theorem State.checkContention_clkCtl (s : State) : s.checkContention.clkCtl = s.clkCtl := by
  rw [State.checkContention_eq]; split <;> rfl
@[simp] theorem State.checkContention_datCtl (s : State) : s.checkContention.datCtl = s.datCtl := by
  rw [State.checkContention_eq]; split <;> rfl
@[simp] theorem State.checkContention_datOut (s : State) : s.checkContention.datOut = s.datOut := by
  rw [State.checkContention_eq]; split <;> rfl
@[simp] theorem State.checkContention_phase (s : State) : s.checkContention.phase = s.phase := by
  rw [State.checkContention_eq]; split <;> rfl
@[simp] theorem State.checkContention_bitIdx (s : State) : s.checkContention.bitIdx = s.bitIdx := by
  rw [State.checkContention_eq]; split <;> rfl
@[simp] theorem State.checkContention_shreg (s : State) : s.checkContention.shreg = s.shreg := by
  rw [State.checkContention_eq]; split <;> rfl
@[simp] theorem State.checkContention_ones (s : State) : s.checkContention.ones = s.ones := by
  rw [State.checkContention_eq]; split <;> rfl
@[simp] theorem State.checkContention_rdStage (s : State) : s.checkContention.rdStage = s.rdStage := by
  rw [State.checkContention_eq]; split <;> rfl
@[simp] theorem State.checkContention_ev (s : State) : s.checkContention.ev = s.ev := by
  rw [State.checkContention_eq]; split <;> rfl
@[simp] theorem State.checkContention_modShift (s : State) : s.checkContention.modShift = s.modShift := by
  rw [State.checkContention_eq]; split <;> rfl
@[simp] theorem State.checkContention_modCtrl (s : State) : s.checkContention.modCtrl = s.modCtrl := by
  rw [State.checkContention_eq]; split <;> rfl
@[simp] theorem State.checkContention_devClk (s : State) : s.checkContention.devClk = s.devClk := by
  rw [State.checkContention_eq]; split <;> rfl
@[simp] theorem State.checkContention_devDat (s : State) : s.checkContention.devDat = s.devDat := by
  rw [State.checkContention_eq]; split <;> rfl
@[simp] theorem State.checkContention_hist (s : State) : s.checkContention.hist = s.hist := by
  rw [State.checkContention_eq]; split <;> rfl
@[simp] theorem State.checkContention_refused (s : State) : s.checkContention.refused = s.refused := by
  rw [State.checkContention_eq]; split <;> rfl
@[simp] theorem State.checkContention_cfg (s : State) : s.checkContention.cfg = s.cfg := by
  rw [State.checkContention_eq]; split <;> rfl
@[simp] theorem State.checkContention_sched (s : State) : s.checkContention.sched = s.sched := by
  rw [State.checkContention_eq]; split <;> rfl

theorem State.checkContention_fault (s : State) :
    s.checkContention.fault =
      if s.fault = none ∧ s.contended = true then some .contention else s.fault := by
  rw [State.checkContention_eq]; split <;> rfl

theorem State.checkContention_of_not_contended {s : State} (h : s.contended = false) :
    s.checkContention = s := by simp [State.checkContention_eq, h]

theorem State.checkContention_of_datCtl {s : State} (h : s.datCtl = .inputPullup) :
    s.checkContention = s :=
  State.checkContention_of_not_contended (by simp [State.contended, h])

/-! ### `resetEvent` -/

@[simp] theorem State.resetEvent_cfgValid (s : State) : s.resetEvent.cfgValid = false := rfl
@[simp] theorem State.resetEvent_clkCtl (s : State) : s.resetEvent.clkCtl = .unconf := rfl
@[simp] theorem State.resetEvent_datCtl (s : State) : s.resetEvent.datCtl = .unconf := rfl
@[simp] theorem State.resetEvent_phase (s : State) : s.resetEvent.phase = .idle := rfl
@[simp] theorem State.resetEvent_modShift (s : State) : s.resetEvent.modShift = false := rfl
@[simp] theorem State.resetEvent_modCtrl (s : State) : s.resetEvent.modCtrl = false := rfl
@[simp] theorem State.resetEvent_devClk (s : State) : s.resetEvent.devClk = s.devClk := rfl
@[simp] theorem State.resetEvent_devDat (s : State) : s.resetEvent.devDat = s.devDat := rfl
@[simp] theorem State.resetEvent_fault (s : State) : s.resetEvent.fault = none := rfl
@[simp] theorem State.resetEvent_hist (s : State) : s.resetEvent.hist = [] := rfl
@[simp] theorem State.resetEvent_refused (s : State) : s.resetEvent.refused = s.refused := rfl
@[simp] theorem State.resetEvent_cfg (s : State) : s.resetEvent.cfg = s.cfg := rfl
@[simp] theorem State.resetEvent_sched (s : State) : s.resetEvent.sched = s.sched := rfl

/-! ### Launch and reset -/

/-- The default configuration is well formed (00 R9, R10). -/
theorem default_wf : Config.default.wf = true := by decide +kernel

@[simp] theorem State.launch_refused (cfg : Config) (c d : Level) :
    (State.launch cfg c d).refused = !cfg.wf := rfl

@[simp] theorem State.launch_cfg (cfg : Config) (c d : Level) : (State.launch cfg c d).cfg = cfg := rfl

/-- Writing a mark that is there already changes nothing. -/
theorem State.with_refused {s : State} {b : Bool} (h : s.refused = b) : { s with refused := b } = s := by
  cases s; cases h; rfl

/-- The launch of the default configuration is not refused. -/
theorem State.launch_default_refused (c d : Level) : (State.launch Config.default c d).refused = false := by
  rw [State.launch_refused, default_wf, Bool.not_true]

/-- The state after reset is the launch of the default configuration. -/
theorem State.reset_eq_launch :
    State.reset = State.launch Config.default Config.launchDevClk Config.launchDevDat :=
  State.with_refused (State.launch_default_refused _ _)

end Sys2Proof.Machine
end

