-- ==== Sys2Proof/Laws/Step.lean ====
section
/-! SUPPORT. What a step can do, said once: the inversion lemmas of the shared operations `guarded` and
`accept`, of the meanings, of an Engine step and of `step`. -/

namespace Sys2Proof.Machine

theorem State.busy_eq_false {s : State} : s.busy = false ↔ s.phase = .idle := by
  simp [State.busy]

theorem State.busy_eq_true {s : State} : s.busy = true ↔ s.phase ≠ .idle := by
  simp [State.busy]

/-! ### `guarded` and `accept` -/

theorem guarded_live {s : State} (h : s.live) (k : Host.Outcome State Fault Refusal) :
    guarded s k = k := by simp [guarded, h.1, h.2]

theorem guarded_eq_next {s t : State} {k : Host.Outcome State Fault Refusal} :
    guarded s k = .next t ↔ s.live ∧ k = .next t := by
  unfold guarded State.live
  cases hr : s.refused <;> cases hf : s.fault <;> simp

theorem accept_live_idle {s : State} (h : s.live) (hi : s.phase = .idle) (check : Option FaultCode)
    (k : Host.Outcome State Fault Refusal) :
    accept s check k = match check with
      | some code => .next (s.raise code)
      | none => k := by
  cases check <;> simp [accept, guarded_live h, State.busy_eq_false.mpr hi]

theorem accept_live_busy {s : State} (h : s.live) (hb : s.phase ≠ .idle) (check : Option FaultCode)
    (k : Host.Outcome State Fault Refusal) : accept s check k = .next (s.raise .busy) := by
  simp [accept, guarded_live h, State.busy_eq_true.mpr hb]

/-- If an acceptance answers a next state, it raised a fault or let the effect answer. -/
theorem accept_next_cases {s t : State} {check : Option FaultCode}
    {k : Host.Outcome State Fault Refusal} (h : accept s check k = .next t) :
    s.live ∧ ((s.phase ≠ .idle ∧ t = s.raise .busy) ∨
      (s.phase = .idle ∧ ∃ code, check = some code ∧ t = s.raise code) ∨
      (s.phase = .idle ∧ check = none ∧ k = .next t)) := by
  obtain ⟨hl, h⟩ := guarded_eq_next.mp h
  refine ⟨hl, ?_⟩
  cases hb : s.busy
  · have hi := State.busy_eq_false.mp hb
    cases check with
    | none => exact .inr (.inr ⟨hi, rfl, by simpa [hb] using h⟩)
    | some code =>
      have : s.raise code = t := by simpa [hb] using h
      exact .inr (.inl ⟨hi, code, rfl, this.symm⟩)
  · have : s.raise .busy = t := by simpa [hb] using h
    exact .inl ⟨State.busy_eq_true.mp hb, this.symm⟩

/-! ### The meanings -/

/-- The state INIT leaves (40 R95). -/
def State.afterInit (s : State) (clk dat : PinId) : State :=
  ((s.bindPins clk dat).driveClkLow.releaseDat).complete .init .none

/-- What XLAT does to the state: at most one modifier flag, and one record (41 R144). -/
theorem translateEvent_next_cases {e : Int} {s t : State} (h : translateEvent e s = .next t) :
    (s.cfg.baseLen ≤ e.natAbs ∧ t = s.completeXlat .noKey) ∨
    (∃ ent, e.natAbs < s.cfg.baseLen ∧ readBaseEntry s.cfg e.natAbs = some ent ∧
      t = if e < 0 then s.releaseKey ent else s.pressKey ent) := by
  unfold translateEvent at h
  split at h
  · rename_i hk
    cases h
    exact .inl ⟨hk, rfl⟩
  · rename_i hk
    split at h
    · cases h
    · rename_i ent hent
      cases h
      exact .inr ⟨ent, Nat.lt_of_not_le hk, hent, rfl⟩

/-- If `exec` answers a next state, a fault was raised or the command had its effect. -/
theorem exec_next_cases {i : Instr} {s t : State} (h : exec i s = .next t) :
    s.live ∧ ((∃ code, t = s.raise code) ∨ (s.phase = .idle ∧
      ((∃ clk dat, i = .init clk dat ∧ initCheck clk dat s = none ∧ t = s.afterInit clk dat) ∨
       (i = .rdev ∧ s.cfgValid = true ∧ t = s.goto .reRel) ∨
       (∃ code, i = .wrb code ∧ s.cfgValid = true ∧ t = { s with shreg := code }.goto .wrRts) ∨
       (∃ ev, i = .xlat ev ∧ translateEvent (normalizeEvent s.cfg ev) s = .next t)))) := by
  have bus : busCheck s = none → s.cfgValid = true := by
    cases hc : s.cfgValid <;> simp [busCheck, hc]
  cases i with
  | init clk dat =>
    obtain ⟨hl, ⟨_, h⟩ | ⟨_, c, _, h⟩ | ⟨hi, hc, h⟩⟩ := accept_next_cases h
    · exact ⟨hl, .inl ⟨_, h⟩⟩
    · exact ⟨hl, .inl ⟨_, h⟩⟩
    · cases h; exact ⟨hl, .inr ⟨hi, .inl ⟨clk, dat, rfl, hc, rfl⟩⟩⟩
  | rdev =>
    obtain ⟨hl, ⟨_, h⟩ | ⟨_, c, _, h⟩ | ⟨hi, hc, h⟩⟩ := accept_next_cases h
    · exact ⟨hl, .inl ⟨_, h⟩⟩
    · exact ⟨hl, .inl ⟨_, h⟩⟩
    · cases h; exact ⟨hl, .inr ⟨hi, .inr (.inl ⟨rfl, bus hc, rfl⟩)⟩⟩
  | wrb code =>
    obtain ⟨hl, ⟨_, h⟩ | ⟨_, c, _, h⟩ | ⟨hi, hc, h⟩⟩ := accept_next_cases h
    · exact ⟨hl, .inl ⟨_, h⟩⟩
    · exact ⟨hl, .inl ⟨_, h⟩⟩
    · cases h; exact ⟨hl, .inr ⟨hi, .inr (.inr (.inl ⟨code, rfl, bus hc, rfl⟩))⟩⟩
  | xlat ev =>
    have h : accept s none (translateEvent (normalizeEvent s.cfg ev) s) = .next t := h
    obtain ⟨hl, ⟨_, h⟩ | ⟨_, c, _, h⟩ | ⟨hi, _, h⟩⟩ := accept_next_cases h
    · exact ⟨hl, .inl ⟨_, h⟩⟩
    · exact ⟨hl, .inl ⟨_, h⟩⟩
    · exact ⟨hl, .inr ⟨hi, .inr (.inr (.inr ⟨ev, rfl, h⟩))⟩⟩

/-! ### Moves and steps -/

theorem State.popped_of_nil {s : State} (h : s.sched = []) : s.popped = s := by
  cases s; simp_all [State.popped]

@[simp] theorem State.popped_live {s : State} : s.popped.live ↔ s.live := Iff.rfl

theorem afterStep_eq_next {k : Host.Outcome State Fault Refusal} {t : State} :
    afterStep k = .next t ↔ ∃ u, k = .next u ∧ t = u.checkContention := by
  cases k <;> simp [afterStep, eq_comm]

theorem engineMove_next_cases {s t : State} (h : engineMove s = .next t) :
    s.live ∧ ((engineStep s = none ∧ t = s) ∨ ∃ u, engineStep s = some u ∧ t = u.checkContention) := by
  obtain ⟨hl, h⟩ := guarded_eq_next.mp h
  refine ⟨hl, ?_⟩
  split at h
  · cases h; exact .inl ⟨‹_›, rfl⟩
  · cases h; exact .inr ⟨_, ‹_›, rfl⟩

/-- What the Caller's word does: a fault, or the decoded command. -/
theorem callerMove_next_cases {w : Word} {s t : State} (h : callerMove w s = .next t) :
    ∃ u, t = u.checkContention ∧ s.live ∧
      ((∃ code, u = s.raise code) ∨ ∃ i, decode w = .ok i ∧ exec i s = .next u) := by
  obtain ⟨u, hu, rfl⟩ := afterStep_eq_next.mp h
  refine ⟨u, rfl, ?_⟩
  split at hu
  · exact ⟨(exec_next_cases hu).1, .inr ⟨_, ‹_›, hu⟩⟩
  · obtain ⟨hl, ⟨_, h⟩ | ⟨_, c, _, h⟩ | ⟨_, hc, _⟩⟩ := accept_next_cases hu
    · exact ⟨hl, .inl ⟨_, h⟩⟩
    · exact ⟨hl, .inl ⟨_, h⟩⟩
    · cases hc

/-- Everything a step that answers a next state can be: reset, a stutter of the Engine, an Engine step,
a Device step, a raised fault, or a command. -/
theorem step_next_cases {s t : State} (h : step s = .next t) :
    ((∃ rest, s.sched = .reset :: rest) ∧ t = s.popped.resetEvent) ∨
    (s.live ∧ (s.sched = [] ∨ ∃ rest, s.sched = .engine :: rest) ∧
      ((engineStep s.popped = none ∧ t = s.popped) ∨
        ∃ u, engineStep s.popped = some u ∧ t = u.checkContention)) ∨
    (s.live ∧ ∃ c d rest, s.sched = .device c d :: rest ∧
      t = (s.popped.setDevice c d).checkContention) ∨
    (s.live ∧ ∃ w rest, s.sched = .caller w :: rest ∧ ∃ u, t = u.checkContention ∧
      ((∃ code, u = s.popped.raise code) ∨ ∃ i, decode w = .ok i ∧ exec i s.popped = .next u)) := by
  unfold step takeMove at h
  split at h
  · rename_i hs
    rw [State.popped_of_nil hs]
    obtain ⟨hl, hc⟩ := engineMove_next_cases h
    exact .inr (.inl ⟨hl, .inl hs, hc⟩)
  · rename_i rest hs
    have hp : { s with sched := rest } = s.popped := by simp [State.popped, hs]
    rw [hp] at h
    obtain ⟨hl, hc⟩ := engineMove_next_cases h
    exact .inr (.inl ⟨hl, .inr ⟨rest, hs⟩, hc⟩)
  · rename_i c d rest hs
    have hp : { s with sched := rest } = s.popped := by simp [State.popped, hs]
    rw [hp] at h
    obtain ⟨hl, hc⟩ := guarded_eq_next.mp h
    cases hc
    exact .inr (.inr (.inl ⟨hl, c, d, rest, hs, rfl⟩))
  · rename_i w rest hs
    have hp : { s with sched := rest } = s.popped := by simp [State.popped, hs]
    rw [hp] at h
    obtain ⟨u, hu, hl, hc⟩ := callerMove_next_cases h
    exact .inr (.inr (.inr ⟨hl, w, rest, hs, u, hu, hc⟩))
  · rename_i rest hs
    have hp : { s with sched := rest } = s.popped := by simp [State.popped, hs]
    rw [hp] at h
    cases h
    exact .inl ⟨⟨rest, hs⟩, rfl⟩

/-- A wait passes exactly when its condition holds (40 R90). -/
theorem waitUntil_eq_some {c : Bool} {x t : State} : waitUntil c x = some t ↔ c = true ∧ x = t := by
  cases c <;> simp [waitUntil]

/-- An Engine step leaves a phase other than IDLE, and changes none of the elements the Engine does not
own (10 R45). -/
theorem engineStep_frame {s t : State} (h : engineStep s = some t) :
    s.phase ≠ .idle ∧ t.cfgValid = s.cfgValid ∧ t.clkPin = s.clkPin ∧ t.datPin = s.datPin ∧
      t.modShift = s.modShift ∧ t.modCtrl = s.modCtrl ∧ t.devClk = s.devClk ∧ t.devDat = s.devDat ∧
      t.fault = s.fault ∧ t.refused = s.refused ∧ t.cfg = s.cfg ∧ t.sched = s.sched := by
  cases hp : s.phase <;> simp only [engineStep, hp, reduceCtorEq] at h
  case rrT1 =>
    obtain ⟨-, rfl⟩ := waitUntil_eq_some.mp h
    unfold State.deliver
    repeat' split
    all_goals simp
  case reRel | rrBS | reInh | wrRts | wrRelc | wrPut | wrPar | wrReld | wrDly | wrInh =>
    obtain rfl := Option.some.inj h
    simp [delay]
  all_goals
    obtain ⟨-, rfl⟩ := waitUntil_eq_some.mp h
    simp

end Sys2Proof.Machine
end

