-- ==== Sys2Proof/Laws/Run.lean ====
section
/-! SUPPORT. The equations a run is computed with: what one step does for each head of the schedule, and
how steps compose. -/

namespace Sys2Proof.Machine

/-! ### The meanings, as acceptances -/

theorem exec_init (clk dat : PinId) (s : State) :
    exec (.init clk dat) s = accept s (initCheck clk dat s) (.next (s.afterInit clk dat)) := rfl

theorem exec_rdev (s : State) : exec .rdev s = accept s (busCheck s) (.next (s.goto .reRel)) := rfl

theorem exec_wrb (code : Byte) (s : State) :
    exec (.wrb code) s = accept s (busCheck s) (.next ({ s with shreg := code }.goto .wrRts)) := rfl

theorem exec_xlat (ev : Int) (s : State) :
    exec (.xlat ev) s = accept s none (translateEvent (normalizeEvent s.cfg ev) s) := rfl

/-- An accepted XLAT answers what the stages answer. -/
theorem exec_xlat_idle {s : State} (hl : s.live) (hi : s.phase = .idle) (ev : Int) :
    exec (.xlat ev) s = translateEvent (normalizeEvent s.cfg ev) s := by
  rw [exec_xlat, accept_live_idle hl hi]

/-- The stages below the table's length, on the entry read. -/
theorem translateEvent_of_entry {s : State} {e : Int} {ent : Entry}
    (h : readBaseEntry s.cfg e.natAbs = some ent) :
    translateEvent e s = .next (if e < 0 then s.releaseKey ent else s.pressKey ent) := by
  have hk : ¬ s.cfg.baseLen ≤ e.natAbs := by
    intro hk
    have : romRead s.cfg.baseTable e.natAbs = none := List.getElem?_eq_none hk
    simp [readBaseEntry, this] at h
  simp [translateEvent, hk, h]

/-- The stages at or beyond the table's length. -/
theorem translateEvent_of_beyond {s : State} {e : Int} (h : s.cfg.baseLen ≤ e.natAbs) :
    translateEvent e s = .next (s.completeXlat .noKey) := by simp [translateEvent, h]

/-- A well-formed configuration reads an entry at every index of the table (41 R159). -/
theorem readBaseEntry_of_wf {cfg : Config} {k : Nat} (hw : cfg.wf = true) (hk : k < cfg.baseLen) :
    ∃ ent, readBaseEntry cfg k = some ent := by
  have hall : cfg.baseTable.all (fun b => (Entry.ofRom b).isSome) = true := by
    simp only [Config.wf, Bool.and_eq_true] at hw
    exact hw.1.1.1.1.2
  have hm : cfg.baseTable[k]'hk ∈ cfg.baseTable := List.getElem_mem hk
  obtain ⟨ent, h⟩ := Option.isSome_iff_exists.mp (List.all_eq_true.mp hall _ hm)
  exact ⟨ent, by simp [readBaseEntry, romRead, List.getElem?_eq_getElem hk, h]⟩

/-! ### One step, by the head of the schedule -/

theorem step_nil {s : State} (h : s.sched = []) : step s = engineMove s := by
  simp [step, takeMove, h]

theorem step_engine {s : State} {rest : List Move} (h : s.sched = .engine :: rest) :
    step s = engineMove { s with sched := rest } := by simp [step, takeMove, h]

theorem step_device {s : State} {c d : Level} {rest : List Move} (h : s.sched = .device c d :: rest) :
    step s = deviceMove c d { s with sched := rest } := by simp [step, takeMove, h]

theorem step_caller {s : State} {w : Word} {rest : List Move} (h : s.sched = .caller w :: rest) :
    step s = callerMove w { s with sched := rest } := by simp [step, takeMove, h]

theorem step_reset {s : State} {rest : List Move} (h : s.sched = .reset :: rest) :
    step s = .next { s with sched := rest }.resetEvent := by simp [step, takeMove, h]

theorem engineMove_of_some {s t : State} (hl : s.live) (h : engineStep s = some t) :
    engineMove s = .next t.checkContention := by simp [engineMove, guarded_live hl, h]

theorem engineMove_of_none {s : State} (hl : s.live) (h : engineStep s = none) :
    engineMove s = .next s := by simp [engineMove, guarded_live hl, h]

theorem deviceMove_live {s : State} (hl : s.live) (c d : Level) :
    deviceMove c d s = .next (s.setDevice c d).checkContention := guarded_live hl _

theorem callerMove_of_ok {w : Word} {i : Instr} (h : decode w = .ok i) (s : State) :
    callerMove w s = afterStep (exec i s) := by simp [callerMove, h]

/-- An Engine step taken by a grant of the schedule. -/
theorem step_engine_of_some {s t : State} {rest : List Move} (hl : s.live)
    (hs : s.sched = .engine :: rest) (h : engineStep { s with sched := rest } = some t) :
    step s = .next t.checkContention := by
  rw [step_engine hs]; exact engineMove_of_some (s := { s with sched := rest }) hl h

/-- A Device step taken from the schedule. -/
theorem step_device_live {s : State} {c d : Level} {rest : List Move} (hl : s.live)
    (hs : s.sched = .device c d :: rest) :
    step s = .next ({ s with sched := rest }.setDevice c d).checkContention := by
  rw [step_device hs]; exact deviceMove_live (s := { s with sched := rest }) hl c d

/-- A held Engine has no enabled step (40 R90). -/
theorem engineStep_of_held {s : State} (h : s.held = true) : engineStep s = none := by
  unfold State.held at h
  cases hp : s.phase <;> simp [hp, Phase.waitsFor] at h <;>
    simp [engineStep, hp, phaseRrS0, phaseRrS1, phaseRrB0, phaseRrB1, phaseRrP0, phaseRrP1, phaseRrT0,
      phaseRrT1, phaseWrS0, phaseWrB1, phaseWrB0, phaseWrP1, phaseWrP0, phaseWrAck, waitUntil, h]
  rcases h with h | h <;> simp [h]

theorem engineStep_of_idle {s : State} (h : s.phase = .idle) : engineStep s = none := by
  simp [engineStep, h]

/-! ### Runs -/

@[simp] theorem runSteps_zero (s : State) : runSteps 0 s = .next s := rfl

theorem runSteps_succ (n : Nat) (s : State) :
    runSteps (n + 1) s = match step s with
      | .next t => runSteps n t
      | .fault r => .fault r
      | .refused r => .refused r := by
  refine (show runSteps (n + 1) s = _ from Host.Core.run.eq_2 Sys2Proof.core s n).trans ?_
  cases hs : step s <;> rw [show Sys2Proof.core.step s = _ from hs] <;> rfl

theorem runSteps_of_step {n : Nat} {s t : State} (h : step s = .next t) :
    runSteps (n + 1) s = runSteps n t := by rw [runSteps_succ, h]

/-- Runs compose. -/
theorem runSteps_add {m n : Nat} {s t : State} (h : runSteps m s = .next t) :
    runSteps (m + n) s = runSteps n t := by
  induction m generalizing s with
  | zero => cases h; rw [Nat.zero_add]
  | succ m ih =>
    rw [Nat.succ_add_eq_add_succ, Nat.add_succ, runSteps_succ]
    rw [runSteps_succ] at h
    cases hs : step s with
    | next u => rw [hs] at h; exact ih h
    | fault r => rw [hs] at h; cases h
    | refused r => rw [hs] at h; cases h

/-- An invariant of every step holds along a run that starts in it. -/
theorem runSteps_invariant {P : State → Prop} (hstep : ∀ s t, P s → step s = .next t → P t)
    {n : Nat} {s t : State} (hs : P s) (h : runSteps n s = .next t) : P t := by
  induction n generalizing s with
  | zero => cases h; exact hs
  | succ n ih =>
    rw [runSteps_succ] at h
    cases hu : step s with
    | next u => rw [hu] at h; exact ih (hstep s u hs hu) h
    | fault r => rw [hu] at h; cases h
    | refused r => rw [hu] at h; cases h

end Sys2Proof.Machine
end

