-- ==== Sys2Proof/Tests/Slice0.lean ====
section
/-! SUPPORT. Tests of the model against words and values written out from the spec (sections named at
each), and for every statement with hypotheses a concrete state and operands that meet them. -/

namespace Sys2Proof.Tests

open Sys2Proof Sys2Proof.Machine

/-! ### Small states -/

/-- The default launch with both lines released by the Device; not refused, as `test_default_wf` shows. -/
def fresh : State := { State.launch Config.default true true with refused := false }

/-- Idle after `INIT 2, 3`. -/
def ready : State :=
  { fresh with cfgValid := true, clkPin := 2, datPin := 3, clkCtl := .driveLow, datCtl := .inputPullup }

/-- Receiving, in a given phase. -/
def receiving (p : Phase) : State := { ready with phase := p, clkCtl := .release }

/-- Sending 0xFF, in a given phase. -/
def sending (p : Phase) : State :=
  { ready with phase := p, clkCtl := .release, datCtl := .output, shreg := 0xFF }

/-- A state with moves to come. -/
def State.given (s : State) (ms : List Move) : State := { s with sched := ms }

/-- An outcome is a next state with a property. -/
def nextHas (o : Host.Outcome State Fault Refusal) (p : State → Bool) : Bool :=
  match o with
  | .next t => p t
  | .fault _ => false
  | .refused _ => false

theorem next_of_has {o : Host.Outcome State Fault Refusal} {p : State → Bool} (h : nextHas o p = true) :
    ∃ t, o = .next t ∧ p t = true := by
  cases o with
  | next t => exact ⟨t, rfl, h⟩
  | fault r => cases h
  | refused r => cases h

/-! ### Well-formedness: an ill-formed term for each check -/

theorem test_wf_refuses_event_above : (Instr.xlat 32768).wellFormed = false := by decide
theorem test_wf_refuses_event_below : (Instr.xlat (-32769)).wellFormed = false := by decide
theorem test_wf_takes_edges :
    (Instr.xlat 32767).wellFormed = true ∧ (Instr.xlat (-32768)).wellFormed = true := by decide

/-- The default configuration of 00 R9. -/
theorem test_default_wf : Config.default.wf = true := by decide +kernel

/-- 95 K7: `EXTEND_OFFSET = 255`. -/
theorem test_cfg_refuses_small_offset : { Config.default with extendOffset := 255 }.wf = false := by
  decide +kernel
theorem test_cfg_refuses_large_offset : { Config.default with extendOffset := 32513 }.wf = false := by
  decide +kernel
theorem test_cfg_refuses_empty_base : { Config.default with baseTable := [] }.wf = false := by
  decide +kernel
theorem test_cfg_refuses_long_base :
    { Config.default with baseTable := List.replicate 257 0 }.wf = false := by decide +kernel
/-- 95 K8: `NO_KEY = 0x0041`. -/
theorem test_cfg_refuses_sentinel_in_range : { Config.default with noKey := 0x0041 }.wf = false := by
  decide +kernel
/-- 95 K9: a base entry 0x80. -/
theorem test_cfg_refuses_reserved_entry :
    { Config.default with baseTable := defaultBaseTable.set 1 0x80 }.wf = false := by decide +kernel
theorem test_cfg_refuses_empty_shift : { Config.default with shiftTable := [] }.wf = false := by
  decide +kernel
theorem test_cfg_refuses_shift_value : { Config.default with shiftTable := [0x80] }.wf = false := by
  decide +kernel
theorem test_cfg_refuses_lctrl : { Config.default with lctrlCode := 0x80 }.wf = false := by
  decide +kernel
theorem test_cfg_refuses_enter : { Config.default with enterCode := 0x80 }.wf = false := by
  decide +kernel

/-! ### Decoding: words from 30 R65 to R69, R77 and 95 section 2.1 -/

theorem test_decode_init : decodeTableWord 32 0x00000203 = some (.init 2 3) := by decide
theorem test_decode_rdev : decodeTableWord 32 0x20000000 = some .rdev := by decide
theorem test_decode_wrb : decodeTableWord 32 0x400000ED = some (.wrb 0xED) := by decide
theorem test_decode_xlat : decodeTableWord 32 0x6000FEEC = some (.xlat (-276)) := by decide
theorem test_decode_reserved_op : decodeTableWord 32 0xE0000000 = none := by decide
theorem test_decode_reserved_field :
    decodeTableWord 32 0x400001ED = none ∧ decodeTableWord 32 0x6001001C = none := by decide
theorem test_encode_words :
    encode (.init 255 0) = 0x0000FF00 ∧ encode .rdev = 0x20000000 ∧ encode (.wrb 0xFF) = 0x400000FF ∧
      encode (.xlat (-18)) = 0x6000FFEE := by decide
/-- 30 R85, `XLAT -18` and `INIT 2, 3`. -/
theorem test_assemble :
    assemble ['X', 'L', 'A', 'T', ' ', '-', '1', '8'] = some 0x6000FFEE ∧
      assemble ['I', 'N', 'I', 'T', ' ', '2', ',', ' ', '3'] = some 0x00000203 ∧
      assemble ['W', 'R', 'B', ' ', '0', 'x', 'E', 'D'] = some 0x400000ED := by decide

/-! ### The instructions, one step each -/

/-- 40 R95, the example. -/
theorem test_init : nextHas (step (fresh.withFetchWord 32 0x00000203)) (fun t =>
    t.clkCtl == .driveLow && t.datCtl == .inputPullup && t.cfgValid && !t.wireClk &&
      t.hist == [⟨.init, .none⟩]) = true := by decide
/-- 95 F14: another pair while configured. -/
theorem test_init_rebind : nextHas (step (ready.withFetchWord 32 0x00000302)) (fun t =>
    t.fault == some .rebind && t.clkPin == 2) = true := by decide
theorem test_rdev : nextHas (step (ready.withFetchWord 32 0x20000000)) (fun t =>
    t.phase == .reRel && t.fault == none) = true := by decide
/-- 95 F1. -/
theorem test_rdev_before_init : nextHas (step (fresh.withFetchWord 32 0x20000000)) (fun t =>
    t.fault == some .notInit && t.phase == .idle) = true := by decide
theorem test_wrb : nextHas (step (ready.withFetchWord 32 0x400000ED)) (fun t =>
    t.phase == .wrRts && t.shreg == 0xED) = true := by decide
/-- 95 F8. -/
theorem test_wrb_reserved : nextHas (step (ready.withFetchWord 32 0x400001ED)) (fun t =>
    t.fault == some .reservedField) = true := by decide
/-- 95 X4: shift then ctrl on A. -/
theorem test_xlat_shift_ctrl :
    nextHas (exec (.xlat 28) { fresh with modShift := true, modCtrl := true }) (fun t =>
      t.hist == [⟨.xlat, .result (.char 0x01)⟩]) = true := by decide +kernel
/-- 95 X52: the right CTRL release is normalized and clears CTRL alone. -/
theorem test_xlat_right_ctrl_release :
    nextHas (exec (.xlat (-276)) { fresh with modShift := true, modCtrl := true }) (fun t =>
      t.modShift && !t.modCtrl && t.hist == [⟨.xlat, .result .noKey⟩]) = true := by decide +kernel
/-- 95 X14: the last slot of the shift table. -/
theorem test_shift_backtick : charResult Config.default true false 0x60 = .char 0x7E := by
  decide +kernel
/-- 95 K2: index aliasing (41 R151). -/
theorem test_shift_alias : charResult Config.default true false 0x3E = .char 0x7B := by decide +kernel
/-- 95 F19: WR_PUT drives 1 against a Device that pulls data low; its writes are kept. -/
theorem test_contention : nextHas (step (State.given { sending .wrPut with devDat := false } [.engine]))
    (fun t => t.fault == some .contention && t.datOut && t.phase == .wrB1) = true := by decide
/-- 40 R104, the example: E0 F0 14 is the event -276, port 0xFEEC. -/
theorem test_sequence : decodeSeq Config.default [0xE0, 0xF0, 0x14] = some (-276, []) ∧
    eventToPort (-276) = 0xFEEC := by decide +kernel
/-- 40 R118, R119: 34 and 24 Device steps. -/
theorem test_script_lengths : (devSend 0x1C).length = 34 ∧ devRecv.length = 24 := by decide
/-- 30 R78: the sentinel and NUL on the result port. -/
theorem test_result_port : Record.port Config.default ⟨.xlat, .result .noKey⟩ = some 0xFFFF ∧
    Record.port Config.default ⟨.xlat, .result (.char 0)⟩ = some 0 := by decide +kernel
/-- 60 R162. -/
theorem test_fault_numbers : [FaultCode.notInit, .reservedOp, .reservedField, .busy, .contention,
    .samePin, .rebind].map FaultCode.number = [1, 2, 3, 4, 5, 6, 7] := by decide

/-! ### Witnesses: encodings -/

theorem witness_EncodeThenDecode :
    (Instr.xlat (-32768)).wellFormed = true ∧ (Instr.init 7 7).wellFormed = true := by decide
theorem witness_DecodeThenEncode : decode 0x6000FFFF = .ok (.xlat (-1)) := by rfl
theorem witness_EventPortRoundTrip : eventInRange (-32768) = true ∧ eventInRange 32767 = true ∧
    Config.default.wf = true ∧ isRdevEvent Config.default (-511) :=
  ⟨by decide, by decide, test_default_wf, .inr (.inr (.inr ⟨0xFF, by decide +kernel⟩))⟩
theorem witness_RomByteForms :
    Entry.ofRom 0x01 = some (.char 0x01) ∧ Entry.ofRom 0x7F = some (.char 0x7F) ∧
      Entry.ofRom 0x83 = none ∧ (0x80 : Byte) ∈ [(0x80 : Byte)] ∧ Entry.ofRom 0x80 = none := by decide
theorem witness_ResultPortDistinct : Config.default.wf = true ∧
    resultToPort Config.default .noKey = resultToPort Config.default .noKey := ⟨test_default_wf, rfl⟩

/-! ### Witnesses: acceptance -/

theorem witness_AcceptanceInOrder : (State.given ready [.caller 0x20000000]).live ∧
    (State.given ready [.caller 0x20000000]).contended = false ∧
    (State.given ready [.caller 0x20000000]).sched = .caller 0x20000000 :: [] := by decide

/-- Each branch of the acceptance is met, at the words of 95 section 2.2. -/
theorem witness_AcceptanceInOrder_branches :
    ([(0x80000000, FaultCode.reservedOp), (0x20010000, .reservedField), (0x20000001, .reservedField),
      (0x40000100, .reservedField), (0x00000303, .samePin), (0x00000302, .rebind)].all fun p =>
        nextHas (step (State.given ready [.caller p.1])) fun t => t.fault == some p.2) = true ∧
    nextHas (step (State.given (receiving .rrS0) [.caller 0xE0000000]))
      (fun t => t.fault == some .busy) = true ∧
    nextHas (step (State.given fresh [.caller 0x40000000])) (fun t => t.fault == some .notInit) = true ∧
    nextHas (step (State.given fresh [.caller 0x6000001C])) (fun t => t.hist.length == 1) = true := by
  decide +kernel

theorem witness_StepRunsDecodedInstruction : decode 0x400000FF = .ok (.wrb 0xFF) ∧
    (State.given ready [.caller 0x400000FF]).sched = .caller 0x400000FF :: [] := ⟨by rfl, by decide⟩
theorem witness_InitCompletes : fresh.live ∧ fresh.phase = .idle ∧ (2 : PinId) ≠ 3 ∧
    (fresh.cfgValid = true → fresh.clkPin = 2 ∧ fresh.datPin = 3) ∧
    ready.live ∧ ready.phase = .idle ∧ ready.clkPin = 2 ∧ ready.datPin = 3 := by decide
theorem witness_InitPinFaults : ready.live ∧ ready.phase = .idle ∧ ready.cfgValid = true ∧
    (3 : PinId) ≠ 2 ∧ ((3 : PinId) ≠ ready.clkPin ∨ (2 : PinId) ≠ ready.datPin) := by decide
theorem witness_BusCommandsAccepted :
    ready.live ∧ ready.phase = .idle ∧ ready.cfgValid = true := by decide
theorem witness_BusCommandsNeedInit :
    fresh.live ∧ fresh.phase = .idle ∧ fresh.cfgValid = false := by decide
theorem witness_BusyCommandFaults :
    (receiving .rrS0).live ∧ (receiving .rrS0).phase ≠ .idle := by decide

/-! ### Witnesses: the Translator -/

theorem witness_XlatCompletesFromFlagsAlone :
    fresh.live ∧ fresh.phase = .idle ∧ fresh.cfg.wf = true := ⟨by decide, rfl, test_default_wf⟩
theorem witness_XlatRangeCheck : fresh.live ∧ fresh.phase = .idle ∧
    fresh.cfg.baseLen ≤ (normalizeEvent fresh.cfg 128).natAbs ∧
    fresh.cfg.baseLen ≤ (normalizeEvent fresh.cfg (-128)).natAbs := by decide +kernel
theorem witness_XlatNormalization : fresh.cfg.wf = true ∧ (28 : Int) ≠ fresh.cfg.rctrlExt ∧
    (28 : Int) ≠ -fresh.cfg.rctrlExt ∧ (28 : Int) ≠ fresh.cfg.kpenterExt := by decide +kernel
theorem witness_KeypadEnterReleaseIsNoKey : fresh.live ∧ fresh.phase = .idle ∧ fresh.cfg.wf = true ∧
    fresh.cfg.lctrlCode ≠ fresh.cfg.enterCode := by decide +kernel
theorem witness_XlatRelease : fresh.live ∧ fresh.phase = .idle ∧
    normalizeEvent fresh.cfg (-0x12) < 0 ∧
    readBaseEntry fresh.cfg (normalizeEvent fresh.cfg (-0x12)).natAbs = some (.modifier .shift) ∧
    normalizeEvent fresh.cfg (-276) < 0 ∧
    readBaseEntry fresh.cfg (normalizeEvent fresh.cfg (-276)).natAbs = some (.modifier .ctrl) := by
  decide +kernel
theorem witness_XlatPressWithoutCharacter : fresh.live ∧ fresh.phase = .idle ∧
    0 ≤ normalizeEvent fresh.cfg 0 ∧
    readBaseEntry fresh.cfg (normalizeEvent fresh.cfg 0).natAbs = some .undef ∧
    readBaseEntry fresh.cfg (normalizeEvent fresh.cfg 0x59).natAbs = some (.modifier .shift) ∧
    readBaseEntry fresh.cfg (normalizeEvent fresh.cfg 0x14).natAbs = some (.modifier .ctrl) := by
  decide +kernel
/-- The four clauses: Z without and with SHIFT, Space with SHIFT, backtick with SHIFT. -/
theorem witness_XlatPressCharacter : fresh.live ∧ fresh.phase = .idle ∧
    { fresh with modShift := true }.live ∧
    readBaseEntry fresh.cfg (normalizeEvent fresh.cfg 0x1A).natAbs = some (.char 0x7A) ∧
    readBaseEntry fresh.cfg (normalizeEvent fresh.cfg 0x29).natAbs = some (.char 0x20) ∧
    shiftIndexOf fresh.cfg 0x20 < 0 ∧
    readBaseEntry fresh.cfg (normalizeEvent fresh.cfg 0x0E).natAbs = some (.char 0x60) ∧
    shiftIndexOf fresh.cfg 0x60 = (28 : Nat) ∧ fresh.cfg.shiftTable[28]? = some 0x7E := by
  decide +kernel
theorem witness_XlatCharactersSevenBit : fresh.cfg.wf = true ∧
    ∃ t, exec (.xlat 28) fresh = .next t ∧
      t.hist = fresh.hist ++ [⟨.xlat, .result (.char 0x61)⟩] :=
  ⟨test_default_wf, (next_of_has (p := fun t => decide (t.hist = _)) (by decide +kernel)).imp
    fun _ h => ⟨h.1, of_decide_eq_true h.2⟩⟩
theorem witness_ModifierTransitions : fresh.live ∧ fresh.phase = .idle ∧ fresh.cfg.wf = true ∧
    fresh.cfg.baseLen ≤ (normalizeEvent fresh.cfg 250).natAbs ∧
    readBaseEntry fresh.cfg (normalizeEvent fresh.cfg (-89)).natAbs = some (.modifier .shift) := by
  decide +kernel
theorem witness_SharedModifierFlag :
    fresh.live ∧ fresh.phase = .idle ∧ fresh.cfg = Config.default := ⟨by decide, rfl, rfl⟩
theorem witness_LargeEventsGiveNoKey : fresh.live ∧ fresh.phase = .idle ∧ fresh.cfg.wf = true ∧
    256 ≤ (256 : Int).natAbs ∧ (256 : Int) ≠ fresh.cfg.rctrlExt ∧ (256 : Int) ≠ -fresh.cfg.rctrlExt ∧
    (256 : Int) ≠ fresh.cfg.kpenterExt ∧ (-346 : Int) ≠ -fresh.cfg.rctrlExt := by decide +kernel
theorem witness_ShiftBelowRangeIsNoKey :
    (0x00 : Byte).toNat < 0x27 ∧ (0x26 : Byte).toNat < 0x27 := by decide

/-! ### Witnesses: the Engine -/

theorem witness_HeldEngineStays : (State.given (receiving .rrS0) [.engine]).live ∧
    (State.given (receiving .rrS0) [.engine]).held = true ∧ (receiving .wrAck).live ∧
    { receiving .wrAck with devDat := false }.held = true ∧ (receiving .rrS0).sched = [] ∧
    fresh.phase = .idle := by decide
theorem witness_PlainWaits :
    ([(Phase.rrS0, false), (.rrB0, false), (.rrP0, false), (.rrP1, true), (.rrT0, false),
      (.wrS0, false), (.wrB1, true), (.wrP1, true), (.wrP0, false)].all fun x =>
        decide ({ receiving x.1 with devClk := x.2, sched := [.engine] }.live) &&
          !{ receiving x.1 with devClk := x.2, sched := [.engine] }.contended &&
          { receiving x.1 with devClk := x.2, sched := [.engine] }.wireClk == x.2) = true := by decide
theorem witness_StartCellClears : (State.given (receiving .rrS1) [.engine]).live ∧
    (State.given (receiving .rrS1) [.engine]).contended = false ∧
    (State.given (receiving .rrS1) [.engine]).wireClk = true ∧
    (State.given { receiving .rrS1 with devClk := false } [.engine]).wireClk = false := by decide
theorem witness_SampleSetsOneBit :
    ([0, 7].all fun k => ([true, false].all fun d =>
      let s := State.given { receiving .rrBS with bitIdx := k, devDat := d } [.engine]
      decide (s.live ∧ s.contended = false ∧ s.phase = .rrBS ∧ s.bitIdx.toNat < 8 ∧
        s.wireDat = d))) = true := by decide
theorem witness_BitLoops :
    ([0, 6, 7].all fun k => ([true, false].all fun c =>
      let s := State.given { receiving .rrB1 with bitIdx := k, devClk := c } [.engine]
      let t := State.given { sending .wrB0 with bitIdx := k, devClk := c } [.engine]
      decide (s.live ∧ s.contended = false ∧ s.bitIdx.toNat < 8 ∧ s.phase = .rrB1 ∧ s.wireClk = c ∧
        t.live ∧ t.contended = false ∧ t.bitIdx.toNat < 8 ∧ t.phase = .wrB0 ∧ t.wireClk = c))) =
      true := by decide
theorem witness_DeliverDispatch :
    ([RdStage.first, .afterF0, .afterE0, .afterE0F0].all fun g =>
      decide ({ receiving .rrT1 with rdStage := g, shreg := 0xF0, sched := [.engine] }.live) &&
        !{ receiving .rrT1 with rdStage := g, shreg := 0xF0, sched := [.engine] }.contended &&
        { receiving .rrT1 with rdStage := g, shreg := 0xF0, sched := [.engine] }.wireClk) = true := by
  decide
theorem witness_RdevReleasesAndInhibits :
    ([Phase.reRel, .reInh].all fun p =>
      let s := State.given (receiving p) [.engine]
      decide (s.live ∧ s.phase = p ∧ s.contended = false ∧ s.sched = .engine :: [])) = true := by
  decide
theorem witness_RequestToSend :
    ([Phase.wrRts, .wrRelc].all fun p =>
      let s := State.given { sending p with clkCtl := .driveLow } [.engine]
      decide (s.live ∧ s.phase = p ∧ s.contended = false ∧ s.sched = .engine :: [])) = true := by
  decide
theorem witness_PutDrivesDataBit :
    ([true, false].all fun d => ([0, 7].all fun k =>
      let s := State.given { sending .wrPut with devDat := d, bitIdx := k } [.engine]
      decide (s.live ∧ s.datCtl = .output ∧ s.phase = .wrPut ∧ s.sched = .engine :: []))) = true := by
  decide
theorem witness_ParityMakesOnesOdd :
    ([0, 7, 8].all fun k =>
      let s := State.given { sending .wrPar with ones := k, devDat := false } [.engine]
      decide (s.live ∧ s.datCtl = .output ∧ s.phase = .wrPar ∧ s.sched = .engine :: [])) = true := by
  decide
theorem witness_ReleaseAcknowledgeInhibit :
    ([Phase.wrReld, .wrDly, .wrAck, .wrInh].all fun p => ([true, false].all fun d =>
      let s := State.given { receiving p with devDat := d } [.engine]
      decide (s.live ∧ s.phase = p ∧ s.contended = false ∧ s.wireClk = true ∧ s.wireDat = d ∧
        s.sched = .engine :: []))) = true := by decide

/-! ### Witnesses: wires, Device, faults, reset -/

theorem witness_WireResolution : ready.clkCtl = .driveLow ∧ (receiving .rrS0).clkCtl ≠ .driveLow ∧
    (sending .wrPut).datCtl = .output ∧ ready.datCtl ≠ .output := by decide
theorem witness_DeviceStep : (State.given { sending .wrB1 with datOut := true } [.device true false]).live ∧
    nextHas (step (State.given { sending .wrB1 with datOut := true } [.device true false]))
      (fun t => t.fault == some .contention) = true := by decide

theorem sending_inv : { sending .wrPut with devDat := false }.Inv where
  mark := by show false = !Config.default.wf; rw [test_default_wf]; rfl
  contention := by decide
  pins := by rfl
  configured := by decide
  distinct := by decide
  progress := ⟨by decide, by show (0 : BitVec 4).toNat = onesBelow 0xFF 0; decide⟩
  history := fun r hr => by cases hr

theorem witness_ContentionRaisers : { sending .wrPut with devDat := false }.Inv ∧
    { sending .wrPut with devDat := false }.live ∧
    ∃ t, step { sending .wrPut with devDat := false } = .next t ∧ t.fault = some .contention :=
  ⟨sending_inv, by decide, _, rfl, by decide⟩
theorem witness_FaultHalts : { fresh with fault := some .notInit }.refused = false ∧
    { fresh with fault := some .notInit }.fault = some .notInit := by decide
theorem witness_IllFormedConfigurationRefused :
    { fresh with refused := true }.refused = true ∧
    (State.launch { Config.default with extendOffset := 255 } true true).refused = true := by
  decide +kernel
theorem witness_ResetStep : (State.given { receiving .rrS0 with fault := some .busy } [.reset]).sched =
    .reset :: [] := by decide

/-! ### Witnesses: whole-machine rules -/

theorem receiving_inv : { receiving .reInh with ev := 28 }.Inv where
  mark := by show false = !Config.default.wf; rw [test_default_wf]; rfl
  contention := by decide
  pins := by rfl
  configured := by decide
  distinct := by decide
  progress := .inl ⟨0x1C, by decide, by decide, by decide⟩
  history := fun r hr => by cases hr

theorem witness_InvariantKept : { receiving .reInh with ev := 28 }.Inv ∧
    ∃ t, step { receiving .reInh with ev := 28 } = .next t ∧ t.hist = [⟨.rdev, .event 28⟩] :=
  ⟨receiving_inv, _, rfl, by decide⟩
theorem witness_CommandEndsByCompletion : { receiving .reInh with ev := 28 }.Inv ∧
    (receiving .reInh).phase ≠ .idle ∧
    ∃ t, step { receiving .reInh with ev := 28 } = .next t ∧ t.phase = .idle :=
  ⟨receiving_inv, by decide, _, rfl, by decide⟩

/-- `fresh` is the default launch. -/
theorem fresh_eq : fresh = State.launch Config.default true true :=
  State.with_refused (State.launch_default_refused _ _)

/-- What holds after some steps of a run from the default launch holds of a reachable state. -/
theorem reachable_of_run {ms : List Move} {n : Nat} {p : State → Bool}
    (h : nextHas (runSteps n { fresh with sched := ms }) p = true) : ∃ t, Reachable t ∧ p t = true := by
  obtain ⟨t, ht, hp⟩ := next_of_has h
  exact ⟨t, ⟨Config.default, true, true, ms, n, by rw [← fresh_eq]; exact ht⟩, hp⟩

/-- After INIT the block is idle and configured on a run from launch. -/
theorem witness_BusOwnershipOnEveryRun : ∃ t, Reachable t ∧ t.phase = .idle ∧ t.cfgValid = true := by
  simpa using reachable_of_run (ms := [.caller 0x00000203]) (n := 1)
    (p := fun t => decide (t.phase = .idle ∧ t.cfgValid = true)) (by decide)

/-- After INIT, RDEV and one Engine step the Engine samples CLK on a run from launch. -/
theorem witness_SamplesOnlyReleasedLines : ∃ t, Reachable t ∧ t.phase.samplesClk = true :=
  reachable_of_run (ms := [.caller 0x00000203, .caller 0x20000000]) (n := 3) (by decide)

theorem witness_OnlyXlatWritesFlags :
    nextHas (step (State.given fresh [.caller 0x60000012])) (fun t => t.modShift) = true ∧
    fresh.modShift = false := by decide +kernel
theorem witness_HistoryAppends : (∀ rest, (receiving .wrInh).sched ≠ .reset :: rest) ∧
    nextHas (step (State.given fresh [.caller 0x00000203])) (fun t => t.hist == [⟨.init, .none⟩]) = true ∧
    nextHas (step (State.given fresh [.caller 0x60000012]))
      (fun t => t.hist == [⟨.xlat, .result .noKey⟩]) = true ∧
    nextHas (step (receiving .wrInh)) (fun t => t.hist == [⟨.wrb, .none⟩]) = true ∧
    nextHas (step (receiving .reInh)) (fun t => t.hist == [⟨.rdev, .event 0⟩]) = true :=
  ⟨by simp [receiving, ready, fresh, State.launch], by decide, by decide +kernel, by decide, by decide⟩
theorem witness_ElementWriters :
    (∀ rest, (State.given fresh [.caller 0x00000203]).sched ≠ .reset :: rest) ∧
    nextHas (step (State.given fresh [.caller 0x00000203])) (fun t => t.cfgValid) = true ∧
    nextHas (step (State.given fresh [.device false true])) (fun t => !t.devClk) = true :=
  ⟨by simp [State.given], by decide, by decide⟩
/-- The three ways to be stuck with no move to come, a held state of which runs on, and the operands of
the run that ends well. -/
theorem witness_NoEndWhileStuck : { fresh with refused := true }.refused = true ∧
    { fresh with fault := some .busy }.fault ≠ none ∧ (receiving .rrS0).held = true ∧ fresh.sched = [] ∧
    (receiving .rrS0).sched = [] ∧ nextHas (runSteps 3 (receiving .rrS0)) (fun t => t.held) = true ∧
    Config.default.wf = true ∧ (2 : PinId) ≠ 3 ∧ eventInRange (-32768) = true :=
  ⟨by decide, by decide, by decide, by decide, by decide, by decide, test_default_wf, by decide, by decide⟩
/-- Two different states with one erasure: idle before INIT, other values in the absent registers. -/
theorem witness_AbsentValuesNeverRead :
    { fresh with shreg := 0xFF, ev := 5, clkPin := 9 }.eraseDead = fresh.eraseDead ∧
    { fresh with shreg := 0xFF }.shreg ≠ fresh.shreg := ⟨rfl, by decide⟩
theorem witness_KeepUpGrantsSuffice :
    (State.given { ready with phase := .wrRts } (List.replicate keepUpGrants .engine)).live ∧
    (State.given { ready with phase := .wrRts } (List.replicate keepUpGrants .engine)).sched =
      List.replicate keepUpGrants .engine ++ [] := by decide
theorem witness_FrameDeliversByte : ∃ s : State, s.live ∧ s.phase = .rrS0 ∧ s.clkCtl = .release ∧
    s.datCtl = .inputPullup ∧ s.devClk = true ∧
    s.sched = keepUp (sendCells (frameCells true 0x1C true false)) ++ [] :=
  ⟨State.given (receiving .rrS0) (keepUp (sendCells (frameCells true 0x1C true false)) ++ []),
    by decide, by decide, by decide, by decide, by decide, rfl⟩
/-- The program of the state is INIT, and no command follows RDEV. -/
theorem witness_RdevReceivesSequence : ∃ s : State, s.live ∧ s.phase = .idle ∧ s.cfgValid = true ∧
    s.contended = false ∧ s.devClk = true ∧ decodeSeq s.cfg [0xE0, 0xF0, 0x14] = some (-276, []) ∧
    s.sched = .caller 0x20000000 :: (List.replicate keepUpGrants .engine ++
      keepUp ([0xE0, 0xF0, 0x14].flatMap devSend) ++ []) ∧
    s.hist.map Record.command = [Instr.init 2 3].map Instr.command ∧ (∀ w, Move.caller w ∉ ([] : List Move)) :=
  ⟨State.given { ready with hist := [⟨.init, .none⟩] } (.caller 0x20000000 :: (List.replicate keepUpGrants .engine ++
      keepUp ([0xE0, 0xF0, 0x14].flatMap devSend) ++ [])),
    by decide, by decide, by decide, by decide, by decide, by decide +kernel, rfl, by decide,
    fun _ => List.not_mem_nil⟩
theorem witness_WrbSendsFrame : ∃ s : State, s.live ∧ s.phase = .idle ∧ s.cfgValid = true ∧
    s.contended = false ∧ s.devClk = true ∧ s.devDat = true ∧
    (s.sched = .caller (encode (.wrb 0xED)) :: (List.replicate keepUpGrants .engine ++
      keepUp devRecv ++ [])) ∧
    (dataCells 0xED ++ [frameParity 0xED, true])[0]? = some true ∧
    (dataCells 0xED ++ [frameParity 0xED, true])[9]? = some true :=
  ⟨State.given ready (.caller (encode (.wrb 0xED)) :: (List.replicate keepUpGrants .engine ++
      keepUp devRecv ++ [])),
    by decide, by decide, by decide, by decide, by decide, by decide, rfl, by decide, by decide⟩

end Sys2Proof.Tests
end

section
/-! PROOFS. The default configuration (00_scope R9, R10; 41_translator R147, R149, R150). -/

namespace Sys2Proof.Machine

/-- Reading a tabulated function at a character's value computes the function. -/
@[simp] theorem tabulate_getElem (f : Nat → Int) {i : Nat} (h : i < 256) : (tabulate f)[i] = f i := by
  simp [tabulate]

/-- `SHIFT_INDEX` of the default configuration is R149's formula, at every character. -/
theorem shiftIndexOf_default (c : Byte) :
    shiftIndexOf Config.default c = defaultShiftIndex c.toNat :=
  tabulate_getElem defaultShiftIndex c.isLt

/-- `BASE_LEN` of the default configuration (R147). -/
theorem default_baseLen : Config.default.baseLen = 128 := by
  simp [Config.baseLen, Config.default, defaultBaseTable]

/-- Settles O27: R10 and R149 by their lemmas; the two tables of R147 and R150 are finite lists, which
evaluate to the listed bytes. -/
theorem defaultConfiguration : Obligations.DefaultConfiguration := by
  unfold Obligations.DefaultConfiguration
  refine ⟨default_wf, default_baseLen, ?shiftLen, ?definedEntries, ?baseTable, ?shiftTable,
    shiftIndexOf_default, ?parameters⟩
  case shiftLen => rfl
  case definedEntries => decide
  case baseTable => rfl
  case shiftTable => rfl
  case parameters => exact ⟨rfl, rfl, rfl, rfl⟩

end Sys2Proof.Machine
end

section
/-! PROOFS. The invariant of the block (10_state R24, R25, R28, R32 to R34, R42, R44): it holds at every
launch and every step keeps it. -/

namespace Sys2Proof.Machine

/-! ### The invariant without its contention clause -/

/-- The clauses of the invariant that a step keeps before the contention check is made (20 R53). -/
structure State.Sound (s : State) : Prop where
  mark : s.refused = !s.cfg.wf
  pins : (s.clkCtl, s.datCtl) = expectedPins s.cfgValid s.phase
  configured : s.phase ≠ .idle → s.cfgValid = true
  distinct : s.cfgValid = true → s.clkPin ≠ s.datPin
  progress : s.progress
  history : ∀ r ∈ s.hist, r.sound s.cfg

theorem State.Inv.sound {s : State} (h : s.Inv) : s.Sound :=
  ⟨h.mark, h.pins, h.configured, h.distinct, h.progress, h.history⟩

theorem State.Sound.popped {s : State} (h : s.Sound) : s.popped.Sound :=
  ⟨h.mark, h.pins, h.configured, h.distinct, h.progress, h.history⟩

theorem State.Sound.setDevice {s : State} (h : s.Sound) (c d : Level) : (s.setDevice c d).Sound :=
  ⟨h.mark, h.pins, h.configured, h.distinct, h.progress, h.history⟩

theorem State.Sound.raise {s : State} (h : s.Sound) (code : FaultCode) : (s.raise code).Sound :=
  ⟨h.mark, h.pins, h.configured, h.distinct, h.progress, h.history⟩

theorem State.Sound.checkContention {s : State} (h : s.Sound) : s.checkContention.Sound := by
  rw [State.checkContention_eq]
  split
  · exact h.raise .contention
  · exact h

/-- After the check, lines that contend are marked (20 R53). -/
theorem State.checkContention_marked (s : State) (h : s.checkContention.contended = true) :
    s.checkContention.fault ≠ none := by
  have hc : s.contended = true := by
    simpa [State.contended] using h
  rw [State.checkContention_fault]
  split
  · exact Option.some_ne_none _
  · rename_i hmark
    exact fun hf => hmark ⟨hf, hc⟩

theorem State.Sound.checkContention_inv {s : State} (h : s.Sound) : s.checkContention.Inv :=
  have h' := h.checkContention
  ⟨h'.mark, s.checkContention_marked, h'.pins, h'.configured, h'.distinct, h'.progress, h'.history⟩

/-! ### What an Engine step does -/

/-- `deliver` waits for another byte, or has built an event of R71 (40 R103). -/
theorem deliver_cases (s : State) (b : Byte) :
    (∃ g, s.deliver b = s.nextByte g) ∨
    ∃ e, isRdevEvent s.cfg e ∧ s.deliver b = s.deliverEvent e := by
  unfold State.deliver
  cases s.rdStage <;> dsimp only
  case first =>
    split
    · exact .inl ⟨_, rfl⟩
    · split
      · exact .inl ⟨_, rfl⟩
      · exact .inr ⟨_, .inl ⟨b, ‹_›, ‹_›, rfl⟩, rfl⟩
  case afterF0 => exact .inr ⟨_, .inr (.inl ⟨b, rfl⟩), rfl⟩
  case afterE0 =>
    split
    · exact .inl ⟨_, rfl⟩
    · exact .inr ⟨_, .inr (.inr (.inl ⟨b, ‹_›, rfl⟩)), rfl⟩
  case afterE0F0 => exact .inr ⟨_, .inr (.inr (.inr ⟨b, rfl⟩)), rfl⟩

/-- An Engine step writes `hist` only as it completes a command (40 R94). -/
theorem engineStep_hist_cases {s t : State} (h : engineStep s = some t) :
    t.hist = s.hist ∨
    (s.phase = .reInh ∧ t.phase = .idle ∧ t.hist = s.hist ++ [⟨.rdev, .event s.ev⟩]) ∨
    (s.phase = .wrInh ∧ t.phase = .idle ∧ t.hist = s.hist ++ [⟨.wrb, .none⟩]) := by
  cases hp : s.phase <;> simp only [engineStep, hp, reduceCtorEq] at h
  case rrT1 =>
    obtain ⟨-, rfl⟩ := waitUntil_eq_some.mp h
    obtain ⟨g, hd⟩ | ⟨e, -, hd⟩ := deliver_cases s s.shreg <;> exact .inl (hd ▸ rfl)
  case reRel | rrBS | reInh | wrRts | wrRelc | wrPut | wrPar | wrReld | wrDly | wrInh =>
    obtain rfl := Option.some.inj h
    simp [delay]
  all_goals
    obtain ⟨-, rfl⟩ := waitUntil_eq_some.mp h
    simp

/-- An Engine step configures the pins as its next phase has them (10 R24, R25). -/
theorem engineStep_pins {s t : State} (h : engineStep s = some t) (hv : s.cfgValid = true)
    (hpins : (s.clkCtl, s.datCtl) = expectedPins s.cfgValid s.phase) :
    (t.clkCtl, t.datCtl) = expectedPins t.cfgValid t.phase := by
  cases hp : s.phase <;> simp only [engineStep, hp, reduceCtorEq] at h
  case rrT1 =>
    obtain ⟨-, rfl⟩ := waitUntil_eq_some.mp h
    obtain ⟨g, hd⟩ | ⟨e, -, hd⟩ := deliver_cases s s.shreg <;> rw [hd] <;>
      simpa [expectedPins, hp] using hpins
  case rrB1 | wrB0 =>
    obtain ⟨-, rfl⟩ := waitUntil_eq_some.mp h
    split <;> simpa [expectedPins, hp] using hpins
  case reRel | rrBS | reInh | wrRts | wrRelc | wrPut | wrPar | wrReld | wrDly | wrInh =>
    obtain rfl := Option.some.inj h
    simp_all [expectedPins, delay]
  all_goals
    obtain ⟨-, rfl⟩ := waitUntil_eq_some.mp h
    simpa [expectedPins, hp] using hpins

/-! ### The registers of a frame -/

/-- The loop counter counts up without wrapping (10 R32). -/
theorem toNat_succ_of_lt_eight {i : BitVec 4} (h : i.toNat < 8) : (i + 1).toNat = i.toNat + 1 := by
  rw [BitVec.toNat_add]
  exact Nat.mod_eq_of_lt (show i.toNat + 1 < 2 ^ 4 by omega)

/-- Sampling a bit into `shreg` leaves the bits above it clear (40 R100). -/
theorem toNat_setBit_lt {b : Byte} {i : BitVec 4} (h : b.toNat < 2 ^ i.toNat) :
    (setBit b i).toNat < 2 ^ (i.toNat + 1) := by
  have hbit : (1#8 <<< i.toNat).toNat < 2 ^ (i.toNat + 1) := by
    rw [BitVec.toNat_shiftLeft, BitVec.toNat_one (by decide), Nat.one_shiftLeft]
    exact lt_of_le_of_lt (Nat.mod_le _ _) (Nat.pow_lt_pow_right (by decide) (Nat.lt_succ_self _))
  rw [setBit, BitVec.toNat_or]
  exact Nat.or_lt_two_pow (h.trans (Nat.pow_lt_pow_right (by decide) (Nat.lt_succ_self _))) hbit

/-- The bit loops leave with the counter at 8 (40 R101, R110). -/
theorem toNat_succ_eq_eight {i : BitVec 4} (h : i.toNat < 8) (hlast : ¬ i + 1 < 8#4) :
    (i + 1).toNat = 8 := by
  have hsucc := toNat_succ_of_lt_eight h
  have hge : ¬ (i + 1).toNat < 8 := hlast
  omega

theorem onesBelow_le (b : Byte) (k : Nat) : onesBelow b k ≤ k := by
  induction k with
  | zero => exact Nat.le_refl 0
  | succ k ih =>
    rw [onesBelow]
    split <;> omega

/-- Counting the bit that is driven counts the ones among one more bit (10 R34, 40 R109). -/
theorem toNat_ones_add_levelCount {b : Byte} {i ones : BitVec 4} (hi : i.toNat < 8)
    (h : ones.toNat = onesBelow b i.toNat) :
    (ones + levelCount (readBit b i)).toNat = onesBelow b (i.toNat + 1) := by
  have hle := onesBelow_le b i.toNat
  rw [onesBelow, ← h, BitVec.toNat_add, readBit]
  cases b.getLsbD i.toNat
  · exact Nat.mod_eq_of_lt ones.isLt
  · exact Nat.mod_eq_of_lt (show ones.toNat + 1 < 2 ^ 4 by omega)

/-- The parity driven is the frame's parity when all eight bits are counted (40 R111). -/
theorem oddParity_eq_frameParity {s : State} (h : s.onesCount 8) :
    oddParity s.ones = frameParity s.shreg := by
  rw [oddParity, frameParity, h]

/-! ### The progress of a frame -/

/-- An Engine step keeps the frame in progress consistent. -/
theorem engineStep_progress {s t : State} (h : engineStep s = some t) (hs : s.progress) :
    t.progress := by
  unfold State.progress at hs
  cases hp : s.phase <;> simp only [engineStep, hp, reduceCtorEq] at h hs
  case rrT1 =>
    obtain ⟨-, rfl⟩ := waitUntil_eq_some.mp h
    obtain ⟨g, hd⟩ | ⟨e, he, hd⟩ := deliver_cases s s.shreg <;> rw [hd]
    · trivial
    · exact he
  case rrS1 =>
    obtain ⟨-, rfl⟩ := waitUntil_eq_some.mp h
    exact ⟨show (0#4).toNat < 8 by decide, show (0#8).toNat < 2 ^ (0#4).toNat by decide⟩
  case rrBS =>
    obtain rfl := Option.some.inj h
    obtain ⟨hi, hb⟩ := hs
    refine ⟨hi, ?_⟩
    dsimp only [State.goto_shreg, State.goto_bitIdx]
    split
    · exact toNat_setBit_lt hb
    · exact hb.trans (Nat.pow_lt_pow_right (by decide) (Nat.lt_succ_self _))
  case rrB1 =>
    obtain ⟨-, rfl⟩ := waitUntil_eq_some.mp h
    obtain ⟨hi, hb⟩ := hs
    rw [← toNat_succ_of_lt_eight hi] at hb
    split
    · exact ⟨‹_›, hb⟩
    · exact toNat_succ_eq_eight hi ‹_›
  case wrRts =>
    obtain rfl := Option.some.inj h
    exact ⟨rfl, rfl, rfl⟩
  case wrPut =>
    obtain rfl := Option.some.inj h
    obtain ⟨hi, hc⟩ := hs
    exact ⟨hi, toNat_ones_add_levelCount hi hc, rfl⟩
  case wrB0 =>
    obtain ⟨-, rfl⟩ := waitUntil_eq_some.mp h
    obtain ⟨hi, hc, -⟩ := hs
    rw [← toNat_succ_of_lt_eight hi] at hc
    split
    · exact ⟨‹_›, hc⟩
    · have hend := toNat_succ_eq_eight hi ‹_›
      exact ⟨hend, hend ▸ hc⟩
  case wrPar =>
    obtain rfl := Option.some.inj h
    obtain ⟨hi, hc⟩ := hs
    exact ⟨hi, hc, oddParity_eq_frameParity hc⟩
  case wrS0 =>
    obtain ⟨-, rfl⟩ := waitUntil_eq_some.mp h
    obtain ⟨hi, hc, -⟩ := hs
    refine ⟨show s.bitIdx.toNat < 8 by omega, ?_⟩
    show s.onesCount s.bitIdx.toNat
    rwa [hi]
  case wrRelc =>
    obtain rfl := Option.some.inj h
    exact hs
  case reRel | reInh | wrReld | wrDly | wrInh =>
    obtain rfl := Option.some.inj h
    trivial
  case rrS0 | rrB0 | rrP0 | rrP1 | rrT0 | wrB1 | wrP1 | wrP0 | wrAck =>
    obtain ⟨-, rfl⟩ := waitUntil_eq_some.mp h
    exact hs

/-! ### XLAT: what it writes and the range of its characters -/

/-- A well-formed configuration shifts to 7-bit characters (00 R10). -/
theorem shiftTable_le_of_wf {cfg : Config} (hw : cfg.wf = true) {v : Byte}
    (hv : v ∈ cfg.shiftTable) : v.toNat ≤ 0x7F := by
  have hall : cfg.shiftTable.all (fun b => decide (b.toNat ≤ 0x7F)) = true := by
    simp only [Config.wf, Bool.and_eq_true] at hw
    obtain ⟨⟨⟨-, htable⟩, -⟩, -⟩ := hw
    exact htable
  exact of_decide_eq_true (List.all_eq_true.mp hall v hv)

/-- A character entry is a ROM byte in 0x01 to 0x7F (30 R75). -/
theorem ofRom_char_le {b c : Byte} (h : Entry.ofRom b = some (.char c)) : c.toNat ≤ 0x7F := by
  unfold Entry.ofRom at h
  split at h
  · cases h
  · split at h
    · cases h; assumption
    · split at h
      · cases h
      · split at h <;> cases h

theorem readBaseEntry_char_le {cfg : Config} {k : Nat} {c : Byte}
    (h : readBaseEntry cfg k = some (.char c)) : c.toNat ≤ 0x7F := by
  obtain ⟨b, -, hb⟩ := Option.bind_eq_some_iff.mp h
  exact ofRom_char_le hb

/-- Masking keeps a character in its range (41 R137, R139). -/
theorem toNat_and_le {c m : Byte} (h : c.toNat ≤ 0x7F) : (c &&& m).toNat ≤ 0x7F := by
  rw [BitVec.toNat_and]
  exact Nat.and_le_left.trans h

theorem shiftStage_le {cfg : Config} (hw : cfg.wf = true) {c v : Byte} (hc : c.toNat ≤ 0x7F)
    (h : shiftStage cfg c = some v) : v.toNat ≤ 0x7F := by
  unfold shiftStage at h
  split at h
  · cases h; exact toNat_and_le hc
  · split at h
    · cases h
    · exact shiftTable_le_of_wf hw (List.mem_of_getElem? h)

theorem ctrlStage_le {c : Byte} (ctrl : Bool) (h : c.toNat ≤ 0x7F) :
    (ctrlStage ctrl c).toNat ≤ 0x7F := by
  cases ctrl
  · exact h
  · exact toNat_and_le h

/-- A character key of a well-formed configuration gives a sound record (41 R140). -/
theorem charResult_sound {cfg : Config} (hw : cfg.wf = true) {c : Byte} (hc : c.toNat ≤ 0x7F)
    (shift ctrl : Bool) : Record.sound cfg ⟨.xlat, .result (charResult cfg shift ctrl c)⟩ := by
  unfold charResult
  split
  · trivial
  · rename_i v hv
    refine ctrlStage_le ctrl ?_
    cases shift
    · cases hv; exact hc
    · exact shiftStage_le hw hc hv

/-- XLAT writes the two flags and appends one record, which is sound in a well-formed configuration
(41 R140, R144). -/
theorem translateEvent_next_eq {e : Int} {s t : State} (h : translateEvent e s = .next t) :
    ∃ shift ctrl r, t = { s with modShift := shift, modCtrl := ctrl }.completeXlat r ∧
      (s.cfg.wf = true → Record.sound s.cfg ⟨.xlat, .result r⟩) := by
  obtain ⟨-, rfl⟩ | ⟨ent, -, hent, rfl⟩ := translateEvent_next_cases h
  · exact ⟨_, _, .noKey, rfl, fun _ => trivial⟩
  · cases ent with
    | undef => exact ⟨_, _, .noKey, ite_self _, fun _ => trivial⟩
    | modifier m =>
      cases m <;> split <;> exact ⟨_, _, .noKey, rfl, fun _ => trivial⟩
    | char c =>
      split
      · exact ⟨_, _, .noKey, rfl, fun _ => trivial⟩
      · exact ⟨_, _, _, rfl, fun hw => charResult_sound hw (readBaseEntry_char_le hent) _ _⟩

/-! ### Sound states -/

/-- An Engine step keeps a sound state sound. -/
theorem engineStep_sound {s t : State} (hs : s.Sound) (h : engineStep s = some t) : t.Sound := by
  obtain ⟨hbusy, hvalid, hclk, hdat, -, -, -, -, -, hrefused, hcfg, -⟩ := engineStep_frame h
  have hconf := hs.configured hbusy
  refine ⟨?_, engineStep_pins h hconf hs.pins, fun _ => hvalid.trans hconf, ?_,
    engineStep_progress h hs.progress, ?_⟩
  · rw [hrefused, hcfg, hs.mark]
  · rw [hclk, hdat]
    exact fun _ => hs.distinct hconf
  · have hist := hs.history
    rw [hcfg]
    obtain hh | ⟨hp, -, hh⟩ | ⟨-, -, hh⟩ := engineStep_hist_cases h <;> rw [hh]
    · exact hist
    · have hev : isRdevEvent s.cfg s.ev := by
        have := hs.progress
        rwa [State.progress, hp] at this
      exact List.forall_mem_append.mpr ⟨hist, List.forall_mem_singleton.mpr hev⟩
    · exact List.forall_mem_append.mpr ⟨hist, List.forall_mem_singleton.mpr trivial⟩

/-- A command that is accepted, or raises its fault, keeps a sound state sound. -/
theorem exec_sound {i : Instr} {s t : State} (hs : s.Sound) (h : exec i s = .next t) : t.Sound := by
  obtain ⟨⟨href, -⟩, ⟨code, rfl⟩ | ⟨hidle, hcmd⟩⟩ := exec_next_cases h
  · exact hs.raise code
  have hpins := hs.pins
  rw [hidle] at hpins
  obtain ⟨clk, dat, -, hcheck, rfl⟩ | ⟨-, hv, rfl⟩ | ⟨code, -, hv, rfl⟩ | ⟨ev, -, hx⟩ := hcmd
  · have hne : clk ≠ dat := by
      rintro rfl
      simp [initCheck] at hcheck
    exact ⟨hs.mark, rfl, fun _ => rfl, fun _ => hne, trivial,
      List.forall_mem_append.mpr ⟨hs.history, List.forall_mem_singleton.mpr trivial⟩⟩
  · rw [hv] at hpins
    exact ⟨hs.mark, hpins, fun _ => hv, hs.distinct, trivial, hs.history⟩
  · rw [hv] at hpins
    exact ⟨hs.mark, hpins, fun _ => hv, hs.distinct, trivial, hs.history⟩
  · obtain ⟨shift, ctrl, r, rfl, hr⟩ := translateEvent_next_eq hx
    have hwf : s.cfg.wf = true := by
      have := hs.mark
      simpa [href] using this
    exact ⟨hs.mark, hpins, fun hb => absurd rfl hb, hs.distinct, trivial,
      List.forall_mem_append.mpr ⟨hs.history, List.forall_mem_singleton.mpr (hr hwf)⟩⟩

/-! ### Launch and reset -/

/-- The invariant speaks of no register that a launch leaves without a value, and of no move to come. -/
theorem launch_inv (cfg : Config) (c d : Level) (ms : List Move) :
    { State.launch cfg c d with sched := ms }.Inv where
  mark := rfl
  contention := fun h => absurd h (by simp [State.contended, State.launch])
  pins := rfl
  configured := fun h => absurd rfl h
  distinct := fun h => absurd h Bool.false_ne_true
  progress := trivial
  history := fun _ h => absurd h List.not_mem_nil

theorem launch_empty_inv (cfg : Config) (c d : Level) : (State.launch cfg c d).Inv :=
  launch_inv cfg c d []

/-- Reset leaves the launch of the state's own configuration (70 R180). -/
theorem State.resetEvent_inv {s : State} (h : s.refused = !s.cfg.wf) : s.resetEvent.Inv :=
  have hl := launch_inv s.cfg s.devClk s.devDat s.sched
  ⟨h, hl.contention, hl.pins, hl.configured, hl.distinct, hl.progress, hl.history⟩

/-- The invariant of the block is kept by every case of a step. -/
theorem step_inv {s t : State} (hs : s.Inv) (h : step s = .next t) : t.Inv := by
  have hp := hs.sound.popped
  obtain ⟨-, rfl⟩ | ⟨-, -, ⟨-, rfl⟩ | ⟨u, hu, rfl⟩⟩ | ⟨-, c, d, rest, -, rfl⟩ |
    ⟨-, w, rest, -, u, rfl, ⟨code, rfl⟩ | ⟨i, -, hi⟩⟩ := step_next_cases h
  · exact State.resetEvent_inv hs.mark
  · exact ⟨hp.mark, hs.contention, hp.pins, hp.configured, hp.distinct, hp.progress, hp.history⟩
  · exact (engineStep_sound hp hu).checkContention_inv
  · exact (hp.setDevice c d).checkContention_inv
  · exact (hp.raise code).checkContention_inv
  · exact (exec_sound hp hi).checkContention_inv

/-- Settles O47: every case of a step keeps the state sound, and the check after it marks contention. -/
theorem invariantKept : Obligations.InvariantKept := by
  unfold Obligations.InvariantKept
  exact fun s t hs h => step_inv hs h

/-- Settles O48: the reset state is a launch, and the invariant reads nothing a launch leaves without a
value. -/
theorem invariantAtLaunch : Obligations.InvariantAtLaunch := by
  unfold Obligations.InvariantAtLaunch
  refine ⟨launch_inv, ?_⟩
  rw [State.reset_eq_launch]
  exact launch_empty_inv _ _ _

/-- A state met on a run meets the invariant. -/
theorem Reachable.inv {t : State} (h : Reachable t) : t.Inv := by
  obtain ⟨cfg, c, d, ms, n, hrun⟩ := h
  exact runSteps_invariant (fun s u => step_inv) (launch_inv cfg c d ms) hrun

/-- Settles O49, from the pins clause of the invariant. -/
theorem busOwnershipOnEveryRun : Obligations.BusOwnershipOnEveryRun := by
  unfold Obligations.BusOwnershipOnEveryRun
  intro t ht hidle
  have hpins := ht.inv.pins
  rw [hidle] at hpins
  constructor
  · intro hv
    rw [hv] at hpins
    exact Prod.mk.inj hpins
  · intro hv
    rw [hv] at hpins
    exact (Prod.mk.inj hpins).1

end Sys2Proof.Machine
end

section
/-! PROOFS. Who writes the modifier flags, `hist`, the pins and the Device's drives (10_state R22, R23,
R37, R40, R42, R45). -/

namespace Sys2Proof.Machine

/-! ### What a command writes -/

/-- A command leaves the elements the Device, the configuration and the schedule own (10 R40, R45). -/
theorem exec_frame {i : Instr} {s t : State} (h : exec i s = .next t) :
    t.devClk = s.devClk ∧ t.devDat = s.devDat ∧ t.cfg = s.cfg ∧ t.refused = s.refused ∧
      t.sched = s.sched := by
  obtain ⟨-, ⟨code, rfl⟩ | ⟨-, ⟨clk, dat, -, -, rfl⟩ | ⟨-, -, rfl⟩ | ⟨code, -, -, rfl⟩ | ⟨ev, -, hx⟩⟩⟩ :=
    exec_next_cases h
  case inr.inr.inr.inr =>
    obtain ⟨_, _, r, rfl, -⟩ := translateEvent_next_eq hx
    exact ⟨rfl, rfl, rfl, rfl, rfl⟩
  all_goals exact ⟨rfl, rfl, rfl, rfl, rfl⟩

/-- Only XLAT writes the modifier flags (10 R37). -/
theorem exec_flags_cases {i : Instr} {s t : State} (h : exec i s = .next t) :
    (t.modShift, t.modCtrl) = (s.modShift, s.modCtrl) ∨ ∃ ev, i = .xlat ev := by
  obtain ⟨-, ⟨code, rfl⟩ | ⟨-, ⟨clk, dat, -, -, rfl⟩ | ⟨-, -, rfl⟩ | ⟨code, -, -, rfl⟩ | ⟨ev, hi, -⟩⟩⟩ :=
    exec_next_cases h
  case inr.inr.inr.inr => exact .inr ⟨ev, hi⟩
  all_goals exact .inl rfl

/-- Only INIT writes `cfg_valid` and the pins (10 R22, R23). -/
theorem exec_pins_cases {i : Instr} {s t : State} (h : exec i s = .next t) :
    (t.cfgValid, t.clkPin, t.datPin) = (s.cfgValid, s.clkPin, s.datPin) ∨
    ∃ clk dat, i = .init clk dat ∧ (t.cfgValid, t.clkPin, t.datPin) = (true, clk, dat) := by
  obtain ⟨-, ⟨code, rfl⟩ | ⟨-, ⟨clk, dat, hi, -, rfl⟩ | ⟨-, -, rfl⟩ | ⟨code, -, -, rfl⟩ | ⟨ev, -, hx⟩⟩⟩ :=
    exec_next_cases h
  case inr.inl => exact .inr ⟨clk, dat, hi, rfl⟩
  case inr.inr.inr.inr =>
    obtain ⟨_, _, r, rfl, -⟩ := translateEvent_next_eq hx
    exact .inl rfl
  all_goals exact .inl rfl

/-- A command appends a record as it completes in its acceptance step, which INIT and XLAT do
(10 R42; 40 R92). -/
theorem exec_hist_cases {i : Instr} {s t : State} (h : exec i s = .next t) :
    t.hist = s.hist ∨ (s.phase = .idle ∧ t.phase = .idle ∧
      ((∃ clk dat, i = .init clk dat) ∧ t.hist = s.hist ++ [⟨.init, .none⟩] ∨
        (∃ ev, i = .xlat ev) ∧ ∃ r, t.hist = s.hist ++ [⟨.xlat, .result r⟩])) := by
  obtain ⟨-, ⟨code, rfl⟩ | ⟨hidle, ⟨clk, dat, hi, -, rfl⟩ | ⟨-, -, rfl⟩ | ⟨code, -, -, rfl⟩ |
    ⟨ev, hi, hx⟩⟩⟩ := exec_next_cases h
  case inr.inl => exact .inr ⟨hidle, rfl, .inl ⟨⟨clk, dat, hi⟩, rfl⟩⟩
  case inr.inr.inr.inr =>
    obtain ⟨_, _, r, rfl, -⟩ := translateEvent_next_eq hx
    exact .inr ⟨hidle, rfl, .inr ⟨⟨ev, hi⟩, r, rfl⟩⟩
  all_goals exact .inl rfl

/-! ### Steps -/

/-- Settles O51, case by case of what a step can be. -/
theorem onlyXlatWritesFlags : Obligations.OnlyXlatWritesFlags := by
  unfold Obligations.OnlyXlatWritesFlags
  refine ⟨fun _ _ _ => ⟨rfl, rfl⟩, ?_, ?_⟩
  · intro s t rest hs h
    rw [step_reset hs] at h
    cases h
    exact ⟨rfl, rfl⟩
  · intro s t h hne
    obtain ⟨hreset, -⟩ | ⟨-, -, ⟨-, rfl⟩ | ⟨u, hu, rfl⟩⟩ | ⟨-, c, d, rest, -, rfl⟩ |
      ⟨-, w, rest, hs, u, rfl, ⟨code, rfl⟩ | ⟨i, hdec, hi⟩⟩ := step_next_cases h
    · exact .inr hreset
    · exact absurd rfl hne
    · obtain ⟨-, -, -, -, hshift, hctrl, -⟩ := engineStep_frame hu
      simp [hshift, hctrl] at hne
    · simp at hne
    · simp at hne
    · obtain hsame | ⟨ev, rfl⟩ := exec_flags_cases hi
      · exact absurd (by simpa using hsame) hne
      · exact .inl ⟨w, ev, rest, hs, hdec⟩

/-- Settles O52, case by case: only INIT, XLAT and the Engine's two inhibiting phases complete. -/
theorem historyAppends : Obligations.HistoryAppends := by
  unfold Obligations.HistoryAppends
  intro s t h hnr
  obtain ⟨⟨rest, hs⟩, -⟩ | ⟨-, hs, ⟨-, rfl⟩ | ⟨u, hu, rfl⟩⟩ | ⟨-, c, d, rest, -, rfl⟩ |
    ⟨-, w, rest, hs, u, rfl, ⟨code, rfl⟩ | ⟨i, hdec, hi⟩⟩ := step_next_cases h
  · exact absurd hs (hnr rest)
  · exact .inl rfl
  · simp only [State.checkContention_hist, State.checkContention_phase]
    obtain hh | ⟨hp, hidle, hh⟩ | ⟨hp, hidle, hh⟩ := engineStep_hist_cases hu
    · exact .inl hh
    · exact .inr (.inr (.inr (.inl ⟨hs, hp, hidle, hh⟩)))
    · exact .inr (.inr (.inr (.inr ⟨hs, hp, hidle, hh⟩)))
  · exact .inl (State.checkContention_hist _)
  · exact .inl (State.checkContention_hist _)
  · simp only [State.checkContention_hist, State.checkContention_phase]
    obtain hh | ⟨hidle, hidle', ⟨⟨clk, dat, rfl⟩, hh⟩ | ⟨⟨ev, rfl⟩, hr⟩⟩ := exec_hist_cases hi
    · exact .inl hh
    · exact .inr (.inl ⟨hidle, hidle', ⟨w, clk, dat, rest, hs, hdec⟩, hh⟩)
    · exact .inr (.inr (.inl ⟨hidle, hidle', ⟨w, ev, rest, hs, hdec⟩, hr⟩))

/-- Settles O53, from the frames of the Engine and of the commands. -/
theorem elementWriters : Obligations.ElementWriters := by
  unfold Obligations.ElementWriters
  intro s t h hnr
  obtain ⟨⟨rest, hs⟩, -⟩ | ⟨-, -, ⟨-, rfl⟩ | ⟨u, hu, rfl⟩⟩ | ⟨-, c, d, rest, hs, rfl⟩ |
    ⟨-, w, rest, hs, u, rfl, ⟨code, rfl⟩ | ⟨i, hdec, hi⟩⟩ := step_next_cases h
  · exact absurd hs (hnr rest)
  · exact ⟨absurd rfl, absurd rfl, rfl, rfl, rfl⟩
  · obtain ⟨-, hv, hclk, hdat, -, -, hdc, hdd, -, href, hcfg, hsched⟩ := engineStep_frame hu
    simp [hv, hclk, hdat, hdc, hdd, href, hcfg, hsched]
  · exact ⟨fun hne => by simp at hne, fun _ => ⟨c, d, rest, hs, by simp⟩, by simp, by simp, by simp⟩
  · simp
  · obtain ⟨hdc, hdd, hcfg, href, hsched⟩ := exec_frame hi
    refine ⟨?_, by simp [hdc, hdd], by simp [hcfg], by simp [href], by simp [hsched]⟩
    simp only [State.checkContention_cfgValid, State.checkContention_clkPin,
      State.checkContention_datPin]
    intro hne
    obtain hsame | ⟨clk, dat, rfl, hset⟩ := exec_pins_cases hi
    · exact absurd hsame hne
    · exact ⟨w, clk, dat, rest, hs, hdec, hset⟩

end Sys2Proof.Machine
end

section
/-! PROOFS. Registers without a value are never read (10_state R44; 40_protocol_engine R125). -/

namespace Sys2Proof.Machine

/-- `t` is `s` with any values in the eight registers of log 5 that no later step of `s` can read. -/
inductive State.Agree (s : State) : State → Prop
  | intro {clk dat : PinId} {out : Level} {idx : BitVec 4} {byte : Byte} {ones : BitVec 4}
      {stage : RdStage} {ev : Int}
      (hpins : s.cfgValid = true → clk = s.clkPin ∧ dat = s.datPin)
      (hout : s.datCtl = .output → out = s.datOut)
      (hidx : s.phase.readsBitIdx = true → idx = s.bitIdx)
      (hbyte : s.phase.readsShreg = true → byte = s.shreg)
      (hones : s.phase.readsOnes = true → ones = s.ones)
      (hstage : s.phase.readsStage = true → stage = s.rdStage)
      (hev : s.phase = .reInh → ev = s.ev) :
      State.Agree s { s with
        clkPin := clk, datPin := dat, datOut := out, bitIdx := idx, shreg := byte, ones := ones
        rdStage := stage, ev := ev }

/-! ### Agreement is equality after erasure -/

/-- A condition guards two values alike exactly when they are equal where it holds. -/
theorem ite_eq_ite_iff {α : Type} {p : Prop} [Decidable p] {x y a : α} :
    (if p then x else a) = (if p then y else a) ↔ (p → x = y) := by
  split <;> simp [*]

/-- Agreement is equality of the erasures, by the registers one at a time. -/
theorem State.agree_iff {s t : State} : s.Agree t ↔ t.eraseDead = s.eraseDead := by
  constructor
  · intro h
    obtain ⟨hpins, hout, hidx, hbyte, hones, hstage, hev⟩ := h
    simp only [State.eraseDead, State.mk.injEq, ite_eq_ite_iff, true_and, and_true]
    exact ⟨fun h => (hpins h).1, fun h => (hpins h).2, hout, hidx, hbyte, hones, hstage, hev⟩
  · intro h
    cases s
    cases t
    simp only [State.eraseDead, State.mk.injEq] at h
    obtain ⟨rfl, hclk, hdat, rfl, rfl, hout, rfl, hidx, hbyte, hones, hstage, hev, rfl, rfl, rfl, rfl,
      rfl, rfl, rfl, rfl, rfl⟩ := h
    rw [ite_eq_ite_iff] at hclk hdat hout hidx hbyte hones hstage hev
    exact .intro (fun h => ⟨hclk h, hdat h⟩) hout hidx hbyte hones hstage hev

section
variable {s t : State}

/-! ### What states that agree have in common -/

theorem State.Agree.cfgValid (h : s.Agree t) : t.cfgValid = s.cfgValid := by cases h; rfl
theorem State.Agree.phase (h : s.Agree t) : t.phase = s.phase := by cases h; rfl
theorem State.Agree.fault (h : s.Agree t) : t.fault = s.fault := by cases h; rfl
theorem State.Agree.refused (h : s.Agree t) : t.refused = s.refused := by cases h; rfl
theorem State.Agree.modShift (h : s.Agree t) : t.modShift = s.modShift := by cases h; rfl
theorem State.Agree.modCtrl (h : s.Agree t) : t.modCtrl = s.modCtrl := by cases h; rfl
theorem State.Agree.cfg (h : s.Agree t) : t.cfg = s.cfg := by cases h; rfl
theorem State.Agree.sched (h : s.Agree t) : t.sched = s.sched := by cases h; rfl
theorem State.Agree.wireClk (h : s.Agree t) : t.wireClk = s.wireClk := by cases h; rfl

theorem State.Agree.wireDat (h : s.Agree t) : t.wireDat = s.wireDat := by
  obtain ⟨-, hout, -, -, -, -, -⟩ := h
  cases hd : s.datCtl
  case output => simp [State.wireDat, State.hostDat, hd, hout hd]
  all_goals simp [State.wireDat, State.hostDat, hd]

theorem State.Agree.contended (h : s.Agree t) : t.contended = s.contended := by
  obtain ⟨-, hout, -, -, -, -, -⟩ := h
  cases hd : s.datCtl
  case output => simp [State.contended, hd, hout hd]
  all_goals simp only [State.contended, hd]; rfl

theorem State.Agree.resetEvent (h : s.Agree t) : t.resetEvent = s.resetEvent := by cases h; rfl

theorem busCheck_agree (h : s.Agree t) : busCheck t = busCheck s := by cases h; rfl

theorem initCheck_agree (h : s.Agree t) (clk dat : PinId) :
    initCheck clk dat t = initCheck clk dat s := by
  obtain ⟨hpins, -, -, -, -, -, -⟩ := h
  cases hv : s.cfgValid
  case false => simp [initCheck, hv]
  case true =>
    obtain ⟨rfl, rfl⟩ := hpins hv
    simp [initCheck, hv]

/-! ### The operations keep agreement -/

theorem State.Agree.raise (h : s.Agree t) (code : FaultCode) : (s.raise code).Agree (t.raise code) := by
  obtain ⟨hpins, hout, hidx, hbyte, hones, hstage, hev⟩ := h
  exact .intro hpins hout hidx hbyte hones hstage hev

theorem State.Agree.setDevice (h : s.Agree t) (c d : Level) :
    (s.setDevice c d).Agree (t.setDevice c d) := by
  obtain ⟨hpins, hout, hidx, hbyte, hones, hstage, hev⟩ := h
  exact .intro hpins hout hidx hbyte hones hstage hev

theorem State.Agree.withSched (h : s.Agree t) (ms : List Move) :
    { s with sched := ms }.Agree { t with sched := ms } := by
  obtain ⟨hpins, hout, hidx, hbyte, hones, hstage, hev⟩ := h
  exact .intro hpins hout hidx hbyte hones hstage hev

theorem State.Agree.setModifier (h : s.Agree t) (m : Modifier) (v : Bool) :
    (s.setModifier m v).Agree (t.setModifier m v) := by
  obtain ⟨hpins, hout, hidx, hbyte, hones, hstage, hev⟩ := h
  cases m <;> exact .intro hpins hout hidx hbyte hones hstage hev

theorem State.Agree.checkContention (h : s.Agree t) : s.checkContention.Agree t.checkContention := by
  rw [State.checkContention_eq, State.checkContention_eq, h.fault, h.contended]
  split
  · exact h.raise .contention
  · exact h

/-- Completion leaves no working register to be read (40 R125). -/
theorem State.Agree.complete (h : s.Agree t) (k : Command) (v : Value) :
    (s.complete k v).Agree (t.complete k v) := by
  obtain ⟨hpins, hout, -, -, -, -, -⟩ := h
  exact .intro hpins hout nofun nofun nofun nofun nofun

theorem State.Agree.driveClkLow (h : s.Agree t) : s.driveClkLow.Agree t.driveClkLow := by
  obtain ⟨hpins, hout, hidx, hbyte, hones, hstage, hev⟩ := h
  exact .intro hpins hout hidx hbyte hones hstage hev

/-- A new stage is written before it is read (40 R103). -/
theorem State.Agree.nextByte (h : s.Agree t) (g : RdStage) : (s.nextByte g).Agree (t.nextByte g) := by
  obtain ⟨hpins, hout, -, -, -, -, -⟩ := h
  exact .intro hpins hout nofun nofun nofun (fun _ => rfl) nofun

/-- The event is written before RE_INH reads it (40 R103, R104). -/
theorem State.Agree.deliverEvent (h : s.Agree t) (e : Int) : (s.deliverEvent e).Agree (t.deliverEvent e) := by
  obtain ⟨hpins, hout, -, -, -, -, -⟩ := h
  exact .intro hpins hout nofun nofun nofun nofun (fun _ => rfl)

theorem State.Agree.deliver (h : s.Agree t) (hs : t.rdStage = s.rdStage) (b : Byte) :
    (s.deliver b).Agree (t.deliver b) := by
  unfold State.deliver
  rw [hs, h.cfg]
  cases s.rdStage <;> dsimp only
  case first =>
    split
    · exact h.nextByte _
    · split
      · exact h.nextByte _
      · exact h.deliverEvent _
  case afterF0 => exact h.deliverEvent _
  case afterE0 =>
    split
    · exact h.nextByte _
    · exact h.deliverEvent _
  case afterE0F0 => exact h.deliverEvent _

theorem waitUntil_agree (c : Bool) (h : s.Agree t) :
    Option.Rel State.Agree (waitUntil c s) (waitUntil c t) := by
  cases c
  · exact .none
  · exact .some h

/-- Phase by phase, the arguments of `.intro` say for the pins, `dat_out`, `bit_idx`, `shreg`, `ones`,
`rd_stage` and `ev` in turn why the next phase may read them: written alike by this step (`rfl`), equal
before it (a hypothesis), or not read (`nofun`). -/
theorem engineStep_agree (h : s.Agree t) : Option.Rel State.Agree (engineStep s) (engineStep t) := by
  have hdat := h.wireDat
  have hdeliver := h.deliver
  have hinhibit := h.driveClkLow
  obtain ⟨hpins, hout, hidx, hbyte, hones, hstage, hev⟩ := h
  cases hp : s.phase <;>
    simp only [engineStep, hp, Phase.readsBitIdx, Phase.readsShreg, Phase.readsOnes, Phase.readsStage,
      forall_const, reduceCtorEq, Bool.false_eq_true, false_implies] at hdat hidx hbyte hones hstage hev ⊢
  case idle => exact .none
  case reRel =>
    exact .some (.intro hpins nofun nofun nofun nofun (fun _ => rfl) nofun)
  case rrS0 =>
    exact waitUntil_agree _
      (.intro hpins hout nofun nofun nofun (fun _ => hstage) nofun)
  case rrS1 =>
    exact waitUntil_agree _
      (.intro hpins hout (fun _ => rfl) (fun _ => rfl) nofun (fun _ => hstage) nofun)
  case rrB0 =>
    exact waitUntil_agree _
      (.intro hpins hout (fun _ => hidx) (fun _ => hbyte) nofun (fun _ => hstage) nofun)
  case rrBS =>
    subst hidx hbyte
    rw [phaseRrBS, phaseRrBS, hdat]
    exact .some
      (.intro hpins hout (fun _ => rfl) (fun _ => rfl) nofun (fun _ => hstage) nofun)
  case rrB1 =>
    subst hidx
    refine waitUntil_agree _ ?_
    split <;> exact
      .intro hpins hout (fun _ => rfl) (fun _ => hbyte) nofun (fun _ => hstage) nofun
  case rrP0 | rrP1 | rrT0 =>
    exact waitUntil_agree _
      (.intro hpins hout nofun (fun _ => hbyte) nofun (fun _ => hstage) nofun)
  case rrT1 =>
    subst hbyte
    exact waitUntil_agree _ (hdeliver hstage s.shreg)
  case reInh =>
    subst hev
    exact .some (hinhibit.complete .rdev (.event s.ev))
  case wrRts =>
    exact .some (.intro hpins (fun _ => rfl) (fun _ => rfl) (fun _ => hbyte)
      (fun _ => rfl) nofun nofun)
  case wrRelc =>
    exact .some (.intro hpins hout (fun _ => hidx) (fun _ => hbyte) (fun _ => hones)
      nofun nofun)
  case wrS0 | wrB1 =>
    exact waitUntil_agree _
      (.intro hpins hout (fun _ => hidx) (fun _ => hbyte) (fun _ => hones) nofun nofun)
  case wrPut =>
    subst hidx hbyte hones
    exact .some (.intro hpins (fun _ => rfl) (fun _ => rfl) (fun _ => rfl)
      (fun _ => rfl) nofun nofun)
  case wrB0 =>
    subst hidx
    refine waitUntil_agree _ ?_
    split <;> exact
      .intro hpins hout (fun _ => rfl) (fun _ => hbyte) (fun _ => hones) nofun nofun
  case wrPar =>
    subst hones
    exact .some (.intro hpins (fun _ => rfl) nofun nofun nofun nofun nofun)
  case wrP1 | wrP0 =>
    exact waitUntil_agree _ (.intro hpins hout nofun nofun nofun nofun nofun)
  case wrReld =>
    exact .some (.intro hpins nofun nofun nofun nofun nofun nofun)
  case wrDly =>
    exact .some (.intro hpins hout nofun nofun nofun nofun nofun)
  case wrAck =>
    rw [phaseWrAck, phaseWrAck, hdat]
    exact waitUntil_agree _ (.intro hpins hout nofun nofun nofun nofun nofun)
  case wrInh => exact .some (hinhibit.complete .wrb .none)

/-! ### Outcomes alike up to the registers no later step reads -/

theorem State.Agree.next (h : s.Agree t) : eraseOutcome (.next t) = eraseOutcome (.next s) :=
  congrArg Host.Outcome.next (State.agree_iff.mp h)

theorem afterStep_agree {k l : Host.Outcome State Fault Refusal} (h : eraseOutcome l = eraseOutcome k) :
    eraseOutcome (afterStep l) = eraseOutcome (afterStep k) := by
  cases k <;> cases l <;> simp only [eraseOutcome, reduceCtorEq, Host.Outcome.next.injEq] at h
  case next.next u v => exact (State.agree_iff.mpr h).checkContention.next
  case fault.fault => exact h
  case refused.refused => exact h

theorem guarded_agree (h : s.Agree t) {k l : Host.Outcome State Fault Refusal}
    (hk : eraseOutcome l = eraseOutcome k) :
    eraseOutcome (guarded t l) = eraseOutcome (guarded s k) := by
  unfold guarded
  rw [h.refused, h.fault]
  split
  · rfl
  · split
    · rfl
    · exact hk

theorem accept_agree (h : s.Agree t) (check : Option FaultCode)
    {k l : Host.Outcome State Fault Refusal} (hk : eraseOutcome l = eraseOutcome k) :
    eraseOutcome (accept t check l) = eraseOutcome (accept s check k) := by
  refine guarded_agree h ?_
  rw [State.busy, h.phase, ← State.busy]
  split
  · exact (h.raise .busy).next
  · split
    · exact (h.raise _).next
    · exact hk

theorem releaseKey_agree (h : s.Agree t) (ent : Entry) : (s.releaseKey ent).Agree (t.releaseKey ent) := by
  cases ent with
  | undef => exact h.complete _ _
  | char c => exact h.complete _ _
  | modifier m => exact (h.setModifier m false).complete _ _

theorem pressKey_agree (h : s.Agree t) (ent : Entry) : (s.pressKey ent).Agree (t.pressKey ent) := by
  cases ent with
  | undef => exact h.complete _ _
  | char c =>
    rw [State.pressKey, State.pressKey, h.cfg, h.modShift, h.modCtrl]
    exact h.complete _ _
  | modifier m => exact (h.setModifier m true).complete _ _

theorem translateEvent_agree (h : s.Agree t) (e : Int) :
    eraseOutcome (translateEvent e t) = eraseOutcome (translateEvent e s) := by
  unfold translateEvent
  rw [h.cfg]
  split
  · exact (h.complete _ _).next
  · split
    · rfl
    · split
      · exact (releaseKey_agree h _).next
      · exact (pressKey_agree h _).next

/-- INIT binds the pins before a later INIT reads them (40 R95). -/
theorem afterInit_agree (h : s.Agree t) (clk dat : PinId) :
    (s.afterInit clk dat).Agree (t.afterInit clk dat) := by
  obtain ⟨-, -, -, -, -, -, -⟩ := h
  exact .intro (fun _ => ⟨rfl, rfl⟩) nofun nofun nofun nofun nofun nofun

/-- RDEV is accepted into a phase that reads no working register (40 R104). -/
theorem acceptRdev_agree (h : s.Agree t) : (s.goto .reRel).Agree (t.goto .reRel) := by
  obtain ⟨hpins, hout, -, -, -, -, -⟩ := h
  exact .intro hpins hout nofun nofun nofun nofun nofun

/-- WRB latches its byte before the Engine reads it (40 R105). -/
theorem acceptWrb_agree (h : s.Agree t) (code : Byte) :
    ({ s with shreg := code }.goto .wrRts).Agree ({ t with shreg := code }.goto .wrRts) := by
  obtain ⟨hpins, hout, -, -, -, -, -⟩ := h
  exact .intro hpins hout nofun (fun _ => rfl) nofun nofun nofun

theorem exec_agree (h : s.Agree t) (i : Instr) :
    eraseOutcome (exec i t) = eraseOutcome (exec i s) := by
  cases i with
  | init clk dat =>
    rw [exec_init, exec_init, initCheck_agree h]
    exact accept_agree h _ (afterInit_agree h clk dat).next
  | rdev =>
    rw [exec_rdev, exec_rdev, busCheck_agree h]
    exact accept_agree h _ (acceptRdev_agree h).next
  | wrb code =>
    rw [exec_wrb, exec_wrb, busCheck_agree h]
    exact accept_agree h _ (acceptWrb_agree h code).next
  | xlat ev =>
    rw [exec_xlat, exec_xlat, h.cfg]
    exact accept_agree h _ (translateEvent_agree h _)

/-! ### Moves -/

theorem engineMove_agree (h : s.Agree t) :
    eraseOutcome (engineMove t) = eraseOutcome (engineMove s) := by
  refine guarded_agree h ?_
  have hstep := engineStep_agree h
  cases hs : engineStep s <;> cases ht : engineStep t <;> rw [hs, ht] at hstep <;> cases hstep
  case none.none => exact h.next
  case some.some hu => exact hu.checkContention.next

theorem callerMove_agree (h : s.Agree t) (w : Word) :
    eraseOutcome (callerMove w t) = eraseOutcome (callerMove w s) := by
  refine afterStep_agree ?_
  split
  · exact exec_agree h _
  · exact accept_agree h _ h.next

theorem step_agree (h : s.Agree t) : eraseOutcome (step t) = eraseOutcome (step s) := by
  cases hs : s.sched with
  | nil =>
    rw [step_nil hs, step_nil (h.sched.trans hs)]
    exact engineMove_agree h
  | cons m rest =>
    have ht := h.sched.trans hs
    have hr := h.withSched rest
    cases m with
    | engine =>
      rw [step_engine hs, step_engine ht]
      exact engineMove_agree hr
    | device c d =>
      rw [step_device hs, step_device ht]
      exact guarded_agree hr (hr.setDevice c d).checkContention.next
    | caller w =>
      rw [step_caller hs, step_caller ht]
      exact callerMove_agree hr w
    | reset => rw [step_reset hs, step_reset ht, hr.resetEvent]

end

/-- Settles O56: states with one erasure agree, and every move keeps agreement. -/
theorem absentValuesNeverRead : Obligations.AbsentValuesNeverRead := by
  unfold Obligations.AbsentValuesNeverRead
  exact fun s t h => (step_agree (State.agree_iff.mpr h.symm)).symm

end Sys2Proof.Machine
end

section
/-! PROOFS. The wires and what the Engine samples of them (20_memory R49, R51). -/

namespace Sys2Proof.Machine

/-! ### The host's side of a line (20 R49) -/

/-- The host's side of CLK is low exactly while the host drives it low (10 R27). -/
theorem State.hostClk_eq_false {s : State} : s.hostClk = false ↔ s.clkCtl = .driveLow := by
  cases h : s.clkCtl <;> simp [State.hostClk, h]

theorem State.hostDat_of_output {s : State} (h : s.datCtl = .output) : s.hostDat = s.datOut := by
  simp [State.hostDat, h]

theorem State.hostDat_of_ne_output {s : State} (h : s.datCtl ≠ .output) : s.hostDat = true := by
  cases hd : s.datCtl with
  | output => exact absurd hd h
  | unconf | inputPullup => simp [State.hostDat, hd]

/-- Settles O40: a wire is the conjunction of its two sides, and the host's side is its drive while it
drives the line and high while it does not. -/
theorem wireResolution : Obligations.WireResolution := by
  unfold Obligations.WireResolution
  intro s
  simp only [State.wireClk, State.wireDat]
  refine ⟨fun h => ?drivenClk, fun h => ?releasedClk, fun h => ?drivenDat, fun h => ?releasedDat⟩
  case drivenClk => rw [State.hostClk_eq_false.mpr h, Bool.false_and]
  case releasedClk =>
    rw [Bool.eq_true_of_not_eq_false (mt State.hostClk_eq_false.mp h), Bool.true_and]
  case drivenDat => rw [State.hostDat_of_output h]
  case releasedDat => rw [State.hostDat_of_ne_output h, Bool.true_and]

/-! ### The pins in a phase that samples (20 R51; 40 R96, R105) -/

theorem Phase.samplesDat_iff {p : Phase} : p.samplesDat = true ↔ p = .rrBS ∨ p = .wrAck := by
  simp [Phase.samplesDat]

/-- The pin table releases the clock in every phase that waits for it. -/
theorem expectedPins_clk_of_samplesClk (v : Bool) {p : Phase} (h : p.samplesClk = true) :
    (expectedPins v p).1 = .release := by
  cases p
  case idle | reRel | rrBS | reInh | wrRts | wrRelc | wrPut | wrPar | wrReld | wrDly | wrInh =>
    exact absurd h (by decide)
  all_goals rfl

/-- The pin table leaves data to the Device in both phases that sample it. -/
theorem expectedPins_dat_of_samplesDat (v : Bool) {p : Phase} (h : p.samplesDat = true) :
    (expectedPins v p).2 = .inputPullup := by
  obtain rfl | rfl := Phase.samplesDat_iff.mp h <;> rfl

/-- Settles O50, from the pins clause of the invariant, which every state met on a run meets. -/
theorem samplesOnlyReleasedLines : Obligations.SamplesOnlyReleasedLines := by
  unfold Obligations.SamplesOnlyReleasedLines
  intro t ht
  obtain ⟨hclk, hdat⟩ := Prod.mk.inj ht.inv.pins
  exact ⟨fun h => hclk.trans (expectedPins_clk_of_samplesClk t.cfgValid h),
    fun h => hdat.trans (expectedPins_dat_of_samplesDat t.cfgValid h)⟩

end Sys2Proof.Machine
end

section
/-! PROOFS. The command word: the event port, the decoder row by row, its inverse, and the opcode map
(30_encoding R65 to R69, R72, R77, R81, R82, R87 to R89). -/

namespace Sys2Proof

/-! ### The event port (R72) -/

theorem eventInRange_iff {ev : Int} : eventInRange ev = true ↔ -32768 ≤ ev ∧ ev ≤ 32767 := by
  simp [eventInRange]

theorem portToEvent_eventToPort {ev : Int} (h : eventInRange ev = true) :
    portToEvent (eventToPort ev) = ev := by
  obtain ⟨hlo, hhi⟩ := eventInRange_iff.mp h
  exact BitVec.toInt_ofInt_eq_self (by decide) hlo (Int.lt_add_one_of_le hhi)

@[simp] theorem eventToPort_portToEvent (p : Port) : eventToPort (portToEvent p) = p :=
  BitVec.ofInt_toInt

theorem eventInRange_portToEvent (p : Port) : eventInRange (portToEvent p) = true :=
  eventInRange_iff.mpr ⟨BitVec.le_toInt p, Int.le_of_lt_add_one BitVec.toInt_lt⟩

/-! ### The words that spell a command and the operands they carry (R66 to R69, R77) -/

/-- The part of `ARG` that the command does not use is zero (R82). -/
def Command.argClear : Command → Word → Prop
  | .init, _ => True
  | .rdev, w => argField w = 0
  | .wrb, w => argHigh w = 0
  | .xlat, _ => True

/-- The word is one of the command's: its `OP`, with every reserved field zero (R66, R82). -/
def Command.Spells (k : Command) (w : Word) : Prop :=
  opField w = opcodeOf k ∧ resField w = 0 ∧ k.argClear w

/-- The instruction a command's word carries (R89). -/
def Command.ofWord : Command → Word → Instr
  | .init, w => .init (argHigh w) (argLow w)
  | .rdev, _ => .rdev
  | .wrb, w => .wrb (argLow w)
  | .xlat, w => .xlat (portToEvent (argField w))

theorem opcodeOf_lt (k : Command) : (opcodeOf k).toNat < 4 := by cases k <;> decide

theorem opcodeOf_injective {k l : Command} (h : opcodeOf k = opcodeOf l) : k = l := by
  revert h
  cases k <;> cases l <;> decide

/-- Every `OP` below 100 is a command's (R66). -/
theorem exists_opcodeOf {op : BitVec 3} (h : op.toNat < 4) : ∃ k, op = opcodeOf k := by
  have hcases : op = 0 ∨ op = 1 ∨ op = 2 ∨ op = 3 := by bv_omega
  obtain rfl | rfl | rfl | rfl := hcases
  · exact ⟨.init, rfl⟩
  · exact ⟨.rdev, rfl⟩
  · exact ⟨.wrb, rfl⟩
  · exact ⟨.xlat, rfl⟩

theorem Command.Spells.unique {k l : Command} {w : Word} (hk : k.Spells w) (hl : l.Spells w) :
    k = l :=
  opcodeOf_injective (hk.1.symm.trans hl.1)

/-! ### What the decoder answers (R81, R82, R88) -/

theorem decode_of_spells {k : Command} {w : Word} (h : k.Spells w) : decode w = .ok (k.ofWord w) := by
  obtain ⟨hop, hres, harg⟩ := h
  rw [decode, hop, if_neg (Nat.not_le.mpr (opcodeOf_lt k)), if_neg (not_not.mpr hres)]
  cases k with
  | init | xlat => rfl
  | rdev | wrb => exact if_neg (not_not.mpr harg)

theorem decode_of_not_spells {k : Command} {w : Word} (hop : opField w = opcodeOf k)
    (h : ¬ k.Spells w) : decode w = .error .reservedField := by
  rw [decode, hop, if_neg (Nat.not_le.mpr (opcodeOf_lt k))]
  by_cases hres : resField w = 0
  · have harg : ¬ k.argClear w := fun harg => h ⟨hop, hres, harg⟩
    rw [if_neg (not_not.mpr hres)]
    cases k with
    | init | xlat => exact absurd trivial harg
    | rdev | wrb => exact if_pos harg
  · exact if_pos hres

theorem decode_of_reservedOp {w : Word} (h : 4 ≤ (opField w).toNat) :
    decode w = .error .reservedOp :=
  if_pos h

/-- A word spells a command, or it decodes to the error its `OP` gives (R88). -/
theorem spells_or_decode_error (w : Word) : (∃ k : Command, k.Spells w) ∨
    decode w = .error (if 4 ≤ (opField w).toNat then .reservedOp else .reservedField) := by
  by_cases hop : 4 ≤ (opField w).toNat
  · exact .inr (by rw [decode_of_reservedOp hop, if_pos hop])
  · obtain ⟨k, hk⟩ := exists_opcodeOf (Nat.lt_of_not_le hop)
    by_cases h : k.Spells w
    · exact .inl ⟨k, h⟩
    · exact .inr (by rw [decode_of_not_spells hk h, if_neg hop])

theorem decode_eq_ok_iff {w : Word} {i : Instr} :
    decode w = .ok i ↔ ∃ k : Command, k.Spells w ∧ k.ofWord w = i := by
  constructor
  · intro h
    obtain ⟨k, hk⟩ | he := spells_or_decode_error w
    · exact ⟨k, hk, Except.ok.inj ((decode_of_spells hk).symm.trans h)⟩
    · cases he.symm.trans h
  · rintro ⟨k, hk, rfl⟩
    exact decode_of_spells hk

/-! ### The encoder is the inverse of the decoder (R87) -/

theorem spells_encode (i : Instr) : i.command.Spells (encode i) := by
  cases i with
  | init clk dat => exact ⟨opField_packWord _ _, resField_packWord _ _, trivial⟩
  | rdev => exact ⟨opField_packWord _ _, resField_packWord _ _, argField_packWord _ _⟩
  | wrb code => exact ⟨opField_packWord _ _, resField_packWord _ _, argHigh_packWord _ _ _⟩
  | xlat ev => exact ⟨opField_packWord _ _, resField_packWord _ _, trivial⟩

/-- The operands of an instruction's word are the instruction's own, if its event fits the port. -/
theorem ofWord_encode {i : Instr} (h : i.wellFormed = true) : i.command.ofWord (encode i) = i := by
  cases i with
  | init clk dat => simp [Instr.command, Command.ofWord, encode]
  | rdev => rfl
  | wrb code => simp [Instr.command, Command.ofWord, encode]
  | xlat ev => simp [Instr.command, Command.ofWord, encode, portToEvent_eventToPort h]

/-- The operands read from a word fit their fields. -/
theorem wellFormed_ofWord (k : Command) (w : Word) : (k.ofWord w).wellFormed = true := by
  cases k with
  | init | rdev | wrb => rfl
  | xlat => exact eventInRange_portToEvent _

theorem encode_ofWord {k : Command} {w : Word} (h : k.Spells w) : encode (k.ofWord w) = w := by
  obtain ⟨hop, hres, harg⟩ := h
  rw [← packWord_fields hres, hop]
  cases k with
  | init => rw [argField_eq_append]; simp [Command.ofWord, encode, opcodeOf]
  | rdev => rw [show argField w = 0 from harg]; rfl
  | wrb =>
    rw [argField_eq_append, show argHigh w = 0 from harg]
    simp [Command.ofWord, encode, opcodeOf]
  | xlat => simp [Command.ofWord, encode, opcodeOf]

/-- Settles O1: an instruction's word spells its command and carries its operands. -/
theorem encodeThenDecode : Obligations.EncodeThenDecode := by
  unfold Obligations.EncodeThenDecode
  intro i hi
  rw [decode_of_spells (spells_encode i), ofWord_encode hi]

/-- Settles O2: a word that decodes spells the command of its instruction. -/
theorem decodeThenEncode : Obligations.DecodeThenEncode := by
  unfold Obligations.DecodeThenEncode
  intro w i h
  obtain ⟨k, hk, rfl⟩ := decode_eq_ok_iff.mp h
  exact ⟨encode_ofWord hk, wellFormed_ofWord k w⟩

/-! ### The opcode map (R88) -/

theorem append_fields (w : Word) : opField w ++ (resField w ++ argField w) = w := by
  have hlow : resField w ++ argField w = w.extractLsb' 0 29 :=
    BitVec.extractLsb'_append_extractLsb'_eq_extractLsb' rfl
  rw [hlow]
  exact (BitVec.extractLsb'_append_extractLsb'_eq_extractLsb' rfl).trans BitVec.extractLsb'_eq_self

theorem eq_iff_fields {v w : Word} : v = w ↔
    opField v = opField w ∧ resField v = resField w ∧ argField v = argField w := by
  constructor
  · rintro rfl
    exact ⟨rfl, rfl, rfl⟩
  · rintro ⟨hop, hres, harg⟩
    rw [← append_fields v, hop, hres, harg, append_fields]

/-- What the rows of R88 share: the mask takes `OP` and `RES` whole, the match holds the command's
opcode and zeros. -/
theorem opcodeMap_fields : ∀ r ∈ opcodeMap,
    (opField r.mask = .allOnes 3 ∧ resField r.mask = .allOnes 13) ∧
    opField r.matchBits = opcodeOf r.command ∧ resField r.matchBits = 0 ∧
    argField r.matchBits = 0 := by
  decide

/-- The bits of `ARG` in a row's mask are those its command does not use. -/
theorem argField_and_mask_eq_zero_iff {r : OpcodeRow} (hr : r ∈ opcodeMap) (w : Word) :
    argField w &&& argField r.mask = 0 ↔ r.command.argClear w := by
  simp only [opcodeMap, List.mem_cons, List.not_mem_nil, or_false] at hr
  obtain rfl | rfl | rfl | rfl := hr
  · exact iff_true_intro BitVec.and_zero
  · exact (congrArg (· = 0) BitVec.and_allOnes).to_iff
  · have hmask : argField 0xFFFFFF00 = BitVec.allOnes 8 ++ 0#8 := rfl
    rw [hmask, argField_eq_append, BitVec.and_append, BitVec.and_allOnes, BitVec.and_zero]
    exact BitVec.append_left_inj (s₂ := 0#8) 0#8
  · exact iff_true_intro BitVec.and_zero

/-- A word matches a row exactly when it spells the row's command (R88). -/
theorem hits_iff_spells {r : OpcodeRow} (hr : r ∈ opcodeMap) (w : Word) :
    r.hits w = true ↔ r.command.Spells w := by
  obtain ⟨⟨hopMask, hresMask⟩, hop, hres, harg⟩ := opcodeMap_fields r hr
  have hopAnd : opField (w &&& r.mask) = opField w := by
    rw [opField, BitVec.extractLsb'_and, ← opField, ← opField, hopMask, BitVec.and_allOnes]
  have hresAnd : resField (w &&& r.mask) = resField w := by
    rw [resField, BitVec.extractLsb'_and, ← resField, ← resField, hresMask, BitVec.and_allOnes]
  have hargAnd : argField (w &&& r.mask) = argField w &&& argField r.mask := BitVec.extractLsb'_and
  rw [OpcodeRow.hits, beq_iff_eq, eq_iff_fields, hopAnd, hresAnd, hargAnd, hop, hres, harg,
    argField_and_mask_eq_zero_iff hr, Command.Spells]

theorem exists_row (k : Command) : ∃ r ∈ opcodeMap, r.command = k := by
  cases k <;> decide

theorem row_unique : ∀ r ∈ opcodeMap, ∀ r' ∈ opcodeMap, r'.command = r.command → r' = r := by
  decide

/-- Settles O3: a word matches a row exactly when it spells the row's command, and it decodes exactly
when it spells one. -/
theorem decodeFollowsOpcodeMap : Obligations.DecodeFollowsOpcodeMap := by
  unfold Obligations.DecodeFollowsOpcodeMap
  intro w
  cases h : decode w with
  | ok i =>
    obtain ⟨k, hk, rfl⟩ := decode_eq_ok_iff.mp h
    obtain ⟨r, hr, rfl⟩ := exists_row k
    refine ⟨r, hr, (hits_iff_spells hr w).mpr hk, fun r' hr' hw => ?unique, ?operands⟩
    case unique => exact row_unique r hr r' hr' (((hits_iff_spells hr' w).mp hw).unique hk)
    case operands => cases r.command <;> rfl
  | error e =>
    have hnone : ∀ k : Command, ¬ k.Spells w := by
      intro k hk
      cases (decode_of_spells hk).symm.trans h
    refine ⟨fun r hr => ?noRow, ?code⟩
    case noRow => exact Bool.eq_false_iff.mpr (mt (hits_iff_spells hr w).mp (hnone _))
    case code =>
      obtain ⟨k, hk⟩ | he := spells_or_decode_error w
      · exact absurd hk (hnone k)
      · exact Except.error.inj (h.symm.trans he)

end Sys2Proof
end

section
/-! PROOFS. Events and bytes: written words, the events of RDEV on the port, the bytes of the base table,
and the lead-in sequences (30_encoding R70 to R72, R75, R79, R80, R84). -/

namespace Sys2Proof

/-! ### The conditions of R10 -/

/-- Every condition of R10, as propositions. -/
theorem Config.wf_iff {cfg : Config} : cfg.wf = true ↔
    256 ≤ cfg.extendOffset ∧ cfg.extendOffset ≤ 32512 ∧
    1 ≤ cfg.baseLen ∧ cfg.baseLen ≤ 256 ∧ 0x00FF < cfg.noKey.toNat ∧
    (∀ b ∈ cfg.baseTable, (Entry.ofRom b).isSome = true) ∧
    1 ≤ cfg.shiftLen ∧ (∀ b ∈ cfg.shiftTable, b.toNat ≤ 0x7F) ∧
    cfg.lctrlCode.toNat < cfg.baseLen ∧ cfg.enterCode.toNat < cfg.baseLen := by
  simp only [Config.wf, Bool.and_eq_true, decide_eq_true_eq, List.all_eq_true, and_assoc]

/-! ### Words and the event port -/

/-- Settles O4: each written word is evaluated. -/
theorem writtenWordsDecode : Obligations.WrittenWordsDecode := by
  unfold Obligations.WrittenWordsDecode
  exact ⟨rfl, rfl, rfl, rfl, rfl, rfl, rfl, rfl, rfl, rfl⟩

theorem toNat_eventToPort (ev : Int) : ((eventToPort ev).toNat : Int) = ev % 2 ^ 16 := by
  rw [eventToPort, BitVec.toNat_ofInt]
  exact Int.toNat_of_nonneg (Int.emod_nonneg ev (by decide))

/-- The events of R71 fit the event port: `EXTEND_OFFSET` leaves room for a byte (R10). -/
theorem eventInRange_of_isRdevEvent {cfg : Config} {ev : Int} (hw : cfg.wf = true)
    (h : isRdevEvent cfg ev) : eventInRange ev = true := by
  obtain ⟨hlo, hhi, -⟩ := Config.wf_iff.mp hw
  rw [eventInRange_iff]
  obtain ⟨b, -, -, rfl⟩ | ⟨b, rfl⟩ | ⟨b, -, rfl⟩ | ⟨b, rfl⟩ := h
  all_goals have hb := b.isLt
  · rw [plainPress]; omega
  · rw [plainRelease]; omega
  · rw [extendedPress]; omega
  · rw [extendedRelease]; omega

theorem decode_packWord_xlat (p : Port) : decode (packWord 3 p) = .ok (.xlat (portToEvent p)) := by
  have h : Command.xlat.Spells (packWord 3 p) :=
    ⟨opField_packWord _ _, resField_packWord _ _, trivial⟩
  rw [decode_of_spells h, Command.ofWord, argField_packWord]

/-- Settles O5, from the lemmas about the event port and the word of an XLAT. -/
theorem eventPortRoundTrip : Obligations.EventPortRoundTrip := by
  unfold Obligations.EventPortRoundTrip
  exact ⟨toNat_eventToPort, fun _ => portToEvent_eventToPort,
    fun p => ⟨eventToPort_portToEvent p, eventInRange_portToEvent p⟩,
    fun _ _ => eventInRange_of_isRdevEvent, fun _ _ => rfl, decode_packWord_xlat⟩

/-! ### ROM bytes (R75) -/

theorem ofRom_of_char {c : Byte} (hlo : 0x01 ≤ c.toNat) (hhi : c.toNat ≤ 0x7F) :
    Entry.ofRom c = some (.char c) := by
  have hc : c ≠ 0x00 := by rintro rfl; exact absurd hlo (by decide)
  rw [Entry.ofRom, if_neg hc, if_pos hhi]

/-- Each byte is one of R75's forms. -/
theorem ofRom_cases (b : Byte) :
    (b = 0x00 ∧ Entry.ofRom b = some .undef) ∨
    ((0x01 ≤ b.toNat ∧ b.toNat ≤ 0x7F) ∧ Entry.ofRom b = some (.char b)) ∨
    (b = 0x81 ∧ Entry.ofRom b = some (.modifier .shift)) ∨
    (b = 0x82 ∧ Entry.ofRom b = some (.modifier .ctrl)) ∨
    ((b = 0x80 ∨ 0x83 ≤ b.toNat) ∧ Entry.ofRom b = none) := by
  unfold Entry.ofRom
  split_ifs with h0 hchar hshift hctrl
  · exact .inl ⟨h0, rfl⟩
  · exact .inr (.inl ⟨⟨by bv_omega, hchar⟩, rfl⟩)
  · exact .inr (.inr (.inl ⟨hshift, rfl⟩))
  · exact .inr (.inr (.inr (.inl ⟨hctrl, rfl⟩)))
  · exact .inr (.inr (.inr (.inr ⟨by bv_omega, rfl⟩)))

theorem ofRom_eq_none_iff {b : Byte} : Entry.ofRom b = none ↔ b = 0x80 ∨ 0x83 ≤ b.toNat := by
  obtain ⟨rfl, hb⟩ | ⟨hc, hb⟩ | ⟨rfl, hb⟩ | ⟨rfl, hb⟩ | ⟨hr, hb⟩ := ofRom_cases b
  · decide
  · exact iff_of_false (hb ▸ Option.some_ne_none _) (by bv_omega)
  · decide
  · decide
  · exact iff_of_true hb hr

theorem toRom_of_ofRom {b : Byte} {e : Entry} (h : Entry.ofRom b = some e) : e.toRom = b := by
  obtain ⟨rfl, hb⟩ | ⟨-, hb⟩ | ⟨rfl, hb⟩ | ⟨rfl, hb⟩ | ⟨-, hb⟩ := ofRom_cases b
  all_goals cases hb.symm.trans h
  all_goals rfl

/-- A well-formed base table holds no reserved byte (R10, R75). -/
theorem wf_eq_false_of_reserved {cfg : Config} {b : Byte} (hb : b ∈ cfg.baseTable)
    (h : Entry.ofRom b = none) : cfg.wf = false := by
  refine Bool.eq_false_iff.mpr fun hw => ?_
  obtain ⟨-, -, -, -, -, htable, -⟩ := Config.wf_iff.mp hw
  exact absurd (htable b hb) (by rw [h]; decide)

/-- Settles O6, from the forms of a ROM byte. -/
theorem romByteForms : Obligations.RomByteForms := by
  unfold Obligations.RomByteForms
  exact ⟨rfl, fun _ => ofRom_of_char, rfl, rfl, fun _ => ofRom_eq_none_iff,
    fun _ _ => toRom_of_ofRom, fun _ _ => wf_eq_false_of_reserved⟩

/-! ### Lead-in sequences (R79, R80, R84), one equation per form of event -/

section
variable (cfg : Config) (b : Byte) (rest : List Byte)

theorem decodeSeq_plainRelease : decodeSeq cfg (leadF0 :: b :: rest) = some (plainRelease b, rest) :=
  rfl

theorem decodeSeq_extendedRelease :
    decodeSeq cfg (leadE0 :: leadF0 :: b :: rest) = some (extendedRelease cfg b, rest) :=
  rfl

variable {b}

theorem decodeSeq_extendedPress (h : b ≠ leadF0) :
    decodeSeq cfg (leadE0 :: b :: rest) = some (extendedPress cfg b, rest) :=
  if_neg h

theorem decodeSeq_plainPress (hE : b ≠ leadE0) (hF : b ≠ leadF0) :
    decodeSeq cfg (b :: rest) = some (plainPress b, rest) :=
  (if_neg hF).trans (if_neg hE)

end

/-- Settles O8: the equations for each form, at every final byte and at the lead-ins themselves. -/
theorem leadInInFinalPosition : Obligations.LeadInInFinalPosition := by
  unfold Obligations.LeadInInFinalPosition
  intro cfg b rest
  exact ⟨rfl, rfl, rfl, rfl, decodeSeq_plainRelease cfg b rest, decodeSeq_extendedRelease cfg b rest,
    decodeSeq_extendedPress cfg rest, decodeSeq_plainPress cfg rest,
    decodeSeq_plainRelease cfg leadF0 rest, decodeSeq_plainRelease cfg leadE0 rest,
    decodeSeq_extendedPress cfg rest (b := leadE0) (by decide),
    decodeSeq_extendedRelease cfg leadF0 rest, decodeSeq_extendedRelease cfg leadE0 rest⟩

end Sys2Proof
end

section
/-! PROOFS. The result port (30_encoding R78; 00_scope R10). -/

namespace Sys2Proof.Machine

theorem toNat_resultToPort_char (cfg : Config) (c : Byte) :
    (resultToPort cfg (.char c)).toNat = c.toNat :=
  BitVec.toNat_setWidth_of_le (by decide)

/-- `NO_KEY` is beyond every character (R10). -/
theorem resultToPort_char_ne_noKey {cfg : Config} (hw : cfg.wf = true) (c : Byte) :
    resultToPort cfg (.char c) ≠ cfg.noKey := by
  obtain ⟨-, -, -, -, hnoKey, -⟩ := Config.wf_iff.mp hw
  intro h
  have hc := toNat_resultToPort_char cfg c
  rw [h] at hc
  have := c.isLt
  omega

theorem resultToPort_injective {cfg : Config} (hw : cfg.wf = true) {r r' : Result}
    (h : resultToPort cfg r = resultToPort cfg r') : r = r' := by
  cases r with
  | noKey =>
    cases r' with
    | noKey => rfl
    | char c' => exact absurd h.symm (resultToPort_char_ne_noKey hw c')
  | char c =>
    cases r' with
    | noKey => exact absurd h (resultToPort_char_ne_noKey hw c)
    | char c' =>
      have hn : c.toNat = c'.toNat := by
        rw [← toNat_resultToPort_char cfg c, h, toNat_resultToPort_char]
      rw [BitVec.eq_of_toNat_eq hn]

/-- Settles O7, from the value of a character on the port and R10's bound on `NO_KEY`. -/
theorem resultPortDistinct : Obligations.ResultPortDistinct := by
  unfold Obligations.ResultPortDistinct
  exact ⟨toNat_resultToPort_char, fun _ => rfl, rfl,
    fun _ _ _ hw => resultToPort_injective hw, fun _ _ => rfl⟩

end Sys2Proof.Machine
end

section
/-! PROOFS. The acceptance of a command word (40_protocol_engine R92, R94, R95, R104, R105;
60_exceptions R160, R162, R163). -/

namespace Sys2Proof.Machine

/-! ### The check after a step, where it has nothing to mark -/

/-- A fault that the step itself raises is the only one (60 R163). -/
@[simp] theorem State.checkContention_raise (s : State) (code : FaultCode) :
    (s.raise code).checkContention = s.raise code := rfl

theorem afterStep_of_not_contended {t : State} (h : t.contended = false) :
    afterStep (.next t) = .next t := by
  rw [afterStep, State.checkContention_of_not_contended h]

/-- XLAT writes nothing that could contend. -/
theorem afterStep_translateEvent {s : State} (h : s.contended = false) (e : Int) :
    afterStep (translateEvent e s) = translateEvent e s := by
  cases hx : translateEvent e s with
  | next t =>
    obtain ⟨shift, ctrl, r, rfl, -⟩ := translateEvent_next_eq hx
    exact afterStep_of_not_contended h
  | fault r => rfl
  | refused r => rfl

/-! ### The meaning of each command, check by check -/

section
variable {s : State} (hl : s.live)
include hl

theorem exec_of_busy (hb : s.phase ≠ .idle) (i : Instr) : exec i s = .next (s.raise .busy) := by
  cases i with
  | init clk dat => exact accept_live_busy hl hb _ _
  | rdev => exact accept_live_busy hl hb _ _
  | wrb code => exact accept_live_busy hl hb _ _
  | xlat ev => exact (exec_xlat ev s).trans (accept_live_busy hl hb _ _)

variable (hi : s.phase = .idle)
include hi

theorem exec_init_of_eq {clk dat : PinId} (heq : clk = dat) :
    exec (.init clk dat) s = .next (s.raise .samePin) := by
  rw [exec_init, accept_live_idle hl hi, initCheck, if_pos heq]

theorem exec_init_of_rebind {clk dat : PinId} (hne : clk ≠ dat) (hv : s.cfgValid = true)
    (hpins : (clk, dat) ≠ (s.clkPin, s.datPin)) :
    exec (.init clk dat) s = .next (s.raise .rebind) := by
  have hcheck : initCheck clk dat s = some .rebind := by
    have hpins : clk = s.clkPin → dat ≠ s.datPin := by simpa using hpins
    simpa [initCheck, hne, hv] using hpins
  rw [exec_init, accept_live_idle hl hi, hcheck]

theorem exec_init_of_ne {clk dat : PinId} (hne : clk ≠ dat)
    (hpins : s.cfgValid = true → (clk, dat) = (s.clkPin, s.datPin)) :
    exec (.init clk dat) s = .next (s.afterInit clk dat) := by
  have hcheck : initCheck clk dat s = none := by
    simpa [initCheck, hne] using hpins
  rw [exec_init, accept_live_idle hl hi, hcheck]

theorem exec_rdev_of_valid (hv : s.cfgValid = true) : exec .rdev s = .next (s.goto .reRel) := by
  rw [exec_rdev, accept_live_idle hl hi, busCheck, if_pos hv]

theorem exec_wrb_of_valid (hv : s.cfgValid = true) (code : Byte) :
    exec (.wrb code) s = .next ({ s with shreg := code }.goto .wrRts) := by
  rw [exec_wrb, accept_live_idle hl hi, busCheck, if_pos hv]

theorem exec_rdev_of_not_valid (hv : s.cfgValid = false) :
    exec .rdev s = .next (s.raise .notInit) := by
  rw [exec_rdev, accept_live_idle hl hi, busCheck, if_neg (Bool.eq_false_iff.mp hv)]

theorem exec_wrb_of_not_valid (hv : s.cfgValid = false) (code : Byte) :
    exec (.wrb code) s = .next (s.raise .notInit) := by
  rw [exec_wrb, accept_live_idle hl hi, busCheck, if_neg (Bool.eq_false_iff.mp hv)]

end

/-- INIT is accepted at idle and stays there (R94, R95). -/
theorem State.afterInit_of_idle {s : State} (hi : s.phase = .idle) (clk dat : PinId) :
    s.afterInit clk dat = { s with
      clkPin := clk, datPin := dat, clkCtl := .driveLow, datCtl := .inputPullup, cfgValid := true
      hist := s.hist ++ [⟨.init, .none⟩] } := by
  cases s
  cases hi
  rfl

/-- Settles O11: no check fails, and INIT has its effect. -/
theorem initCompletes : Obligations.InitCompletes := by
  unfold Obligations.InitCompletes
  intro clk dat s hl hi hne hpins
  refine ⟨s.afterInit clk dat, exec_init_of_ne hl hi hne fun hv => ?_, rfl,
    State.afterInit_of_idle hi clk dat⟩
  obtain ⟨hclk, hdat⟩ := hpins hv
  rw [hclk, hdat]

/-- Settles O12, from INIT's two checks. -/
theorem initPinFaults : Obligations.InitPinFaults := by
  unfold Obligations.InitPinFaults
  intro clk dat s hl hi
  refine ⟨exec_init_of_eq hl hi, fun hne hv hpins => exec_init_of_rebind hl hi hne hv ?_⟩
  rwa [Ne, Prod.mk.injEq, not_and_or]

/-- Settles O13, from the meanings of the two bus commands. -/
theorem busCommandsAccepted : Obligations.BusCommandsAccepted := by
  unfold Obligations.BusCommandsAccepted
  exact fun s hl hi hv => ⟨exec_rdev_of_valid hl hi hv, exec_wrb_of_valid hl hi hv⟩

/-- Settles O14, from the check of the two bus commands. -/
theorem busCommandsNeedInit : Obligations.BusCommandsNeedInit := by
  unfold Obligations.BusCommandsNeedInit
  exact fun s hl hi hv => ⟨exec_rdev_of_not_valid hl hi hv, exec_wrb_of_not_valid hl hi hv⟩

/-- Settles O15: the busy check is the first of every command. -/
theorem busyCommandFaults : Obligations.BusyCommandFaults := by
  unfold Obligations.BusyCommandFaults
  exact fun i s hl hb => exec_of_busy hl hb i

/-! ### The word, from the schedule to its meaning -/

theorem step_caller_of_ok {s : State} {w : Word} {i : Instr} {rest : List Move}
    (hd : decode w = .ok i) (hs : s.sched = .caller w :: rest) :
    step s = afterStep (exec i { s with sched := rest }) := by
  rw [step_caller hs, callerMove_of_ok hd]

/-- Settles O10: the word at the head of the schedule is decoded and run; the check after it marks
contention alone. -/
theorem stepRunsDecodedInstruction : Obligations.StepRunsDecodedInstruction := by
  unfold Obligations.StepRunsDecodedInstruction
  refine ⟨fun s w i rest => step_caller_of_ok, ?fetched, ?check, fun _ => rfl, fun _ => rfl⟩
  case fetched =>
    intro s w i hd
    have hs : (s.withFetchWord 32 w.toNat).sched = .caller w :: s.sched := by
      simp [State.withFetchWord, State.issueNext, Nat.mod_eq_of_lt w.isLt]
    exact step_caller_of_ok hd hs
  case check =>
    intro t
    rw [afterStep, State.checkContention_eq]
    rfl

section
variable {s : State} {w : Word} (hl : s.live)
include hl

/-- The busy check comes before the word is read (R92 check 1). -/
theorem callerMove_of_busy (hb : s.phase ≠ .idle) : callerMove w s = .next (s.raise .busy) := by
  cases hd : decode w with
  | ok i => rw [callerMove_of_ok hd, exec_of_busy hl hb, afterStep, State.checkContention_raise]
  | error e => simp [callerMove, hd, accept_live_busy hl hb, afterStep]

/-- A word that spells no command raises its fault on the idle block (R92 checks 2 and 3). -/
theorem callerMove_of_error {e : DecodeError} (hi : s.phase = .idle) (hd : decode w = .error e) :
    callerMove w s = .next (s.raise (decodeFault e)) := by
  simp [callerMove, hd, accept_live_idle hl hi, afterStep]

end

/-- A command that raises its fault, or whose writes do not contend. -/
theorem callerMove_of_next {s t : State} {w : Word} {k : Command} (hk : k.Spells w)
    (he : exec (k.ofWord w) s = .next t) (ht : t.checkContention = t) :
    callerMove w s = .next t := by
  rw [callerMove_of_ok (decode_of_spells hk), he, afterStep, ht]

section
variable {s : State} {w : Word} (hl : s.live) (hi : s.phase = .idle)
include hl hi

/-- A word of INIT on the idle block (R92 checks 4 and 5, R95). -/
theorem callerMove_init (hw : Command.init.Spells w) : callerMove w s =
    if argHigh w = argLow w then .next (s.raise .samePin)
    else if s.cfgValid = true ∧ (argHigh w, argLow w) ≠ (s.clkPin, s.datPin) then
      .next (s.raise .rebind)
    else .next { s with
      clkPin := argHigh w, datPin := argLow w, clkCtl := .driveLow, datCtl := .inputPullup
      cfgValid := true, hist := s.hist ++ [⟨.init, .none⟩] } := by
  split_ifs with hsame hrebind
  · exact callerMove_of_next hw (exec_init_of_eq hl hi hsame) rfl
  · obtain ⟨hv, hpins⟩ := hrebind
    exact callerMove_of_next hw (exec_init_of_rebind hl hi hsame hv hpins) rfl
  · have hpins := fun hv => not_not.mp (not_and.mp hrebind hv)
    rw [← State.afterInit_of_idle hi]
    exact callerMove_of_next hw (exec_init_of_ne hl hi hsame hpins)
      (State.checkContention_of_datCtl rfl)

variable (hc : s.contended = false)
include hc

/-- A word of RDEV on the idle block (R92 check 6, R104). -/
theorem callerMove_rdev (hw : Command.rdev.Spells w) : callerMove w s =
    if s.cfgValid = false then .next (s.raise .notInit) else .next (s.goto .reRel) := by
  split_ifs with hv
  · exact callerMove_of_next hw (exec_rdev_of_not_valid hl hi hv) rfl
  · exact callerMove_of_next hw (exec_rdev_of_valid hl hi (Bool.eq_true_of_not_eq_false hv))
      (State.checkContention_of_not_contended hc)

/-- A word of WRB on the idle block (R92 check 6, R105). -/
theorem callerMove_wrb (hw : Command.wrb.Spells w) : callerMove w s =
    if s.cfgValid = false then .next (s.raise .notInit)
    else .next ({ s with shreg := argLow w }.goto .wrRts) := by
  split_ifs with hv
  · exact callerMove_of_next hw (exec_wrb_of_not_valid hl hi hv _) rfl
  · exact callerMove_of_next hw (exec_wrb_of_valid hl hi (Bool.eq_true_of_not_eq_false hv) _)
      (State.checkContention_of_not_contended hc)

/-- A word of XLAT on the idle block (41 R130). -/
theorem callerMove_xlat (hw : Command.xlat.Spells w) : callerMove w s =
    translateEvent (normalizeEvent s.cfg (portToEvent (argField w))) s := by
  rw [callerMove_of_ok (decode_of_spells hw), Command.ofWord, exec_xlat_idle hl hi,
    afterStep_translateEvent hc]

end

/-- The reserved fields of a word with the `OP` of a command (R82). -/
theorem reservedField_iff {k : Command} {w : Word} (hk : opField w = opcodeOf k) :
    (resField w ≠ 0 ∨ ((opField w).toNat = 1 ∧ argField w ≠ 0) ∨
      ((opField w).toNat = 2 ∧ argHigh w ≠ 0)) ↔ ¬ k.Spells w := by
  cases k <;> simp [Command.Spells, Command.argClear, hk, opcodeOf, imp_iff_not_or]

/-- Settles O9: one check after the other, and then one meaning per command. -/
theorem acceptanceInOrder : Obligations.AcceptanceInOrder := by
  unfold Obligations.AcceptanceInOrder
  intro s w rest hl hc hs
  rw [step_caller hs]
  -- The bits of the word under the names of their fields (R65), which the decoder's lemmas use.
  change callerMove w { s with sched := rest } = if s.phase ≠ .idle then _
    else if 4 ≤ (opField w).toNat then _
    else if resField w ≠ 0 ∨ ((opField w).toNat = 1 ∧ argField w ≠ 0) ∨
      ((opField w).toNat = 2 ∧ argHigh w ≠ 0) then _
    else if (opField w).toNat = 0 ∧ argHigh w = argLow w then _
    else if (opField w).toNat = 0 ∧ s.cfgValid = true ∧
      (argHigh w, argLow w) ≠ (s.clkPin, s.datPin) then _
    else if ((opField w).toNat = 1 ∨ (opField w).toNat = 2) ∧ s.cfgValid = false then _
    else if (opField w).toNat = 0 then _
    else if (opField w).toNat = 1 then _
    else if (opField w).toNat = 2 then _
    else _
  have hl' : { s with sched := rest }.live := hl
  by_cases hb : s.phase = .idle
  case neg => rw [if_pos hb]; exact callerMove_of_busy hl' hb
  by_cases hop : 4 ≤ (opField w).toNat
  case pos =>
    rw [if_neg (not_not.mpr hb), if_pos hop]
    exact callerMove_of_error hl' hb (decode_of_reservedOp hop)
  obtain ⟨k, hk⟩ := exists_opcodeOf (Nat.lt_of_not_le hop)
  by_cases hw : k.Spells w
  case neg =>
    rw [if_neg (not_not.mpr hb), if_neg hop, if_pos ((reservedField_iff hk).mpr hw)]
    exact callerMove_of_error hl' hb (decode_of_not_spells hk hw)
  rw [if_neg (not_not.mpr hb), if_neg hop, if_neg (mt (reservedField_iff hk).mp (not_not.mpr hw))]
  have hn : (opField w).toNat = (opcodeOf k).toNat := congrArg BitVec.toNat hk
  rw [hn]
  cases k with
  | init =>
    simp +decide only [true_and, false_and, if_true, if_false]
    exact callerMove_init hl' hb hw
  | rdev =>
    simp +decide only [true_and, false_and, if_true, if_false]
    exact callerMove_rdev hl' hb hc hw
  | wrb =>
    simp +decide only [true_and, false_and, if_true, if_false]
    exact callerMove_wrb hl' hb hc hw
  | xlat =>
    simp +decide only [false_and, if_false]
    exact callerMove_xlat hl' hb hc hw

end Sys2Proof.Machine
end

section
/-! PROOFS. The Engine, phase by phase (40_protocol_engine R90 to R116), the Device's step (R117), and the
end of a command (R93, R125). -/

namespace Sys2Proof.Machine

/-! ### The contention check on a live state -/

theorem State.contended_iff {s : State} :
    s.contended = true ↔ s.datCtl = .output ∧ s.datOut = true ∧ s.devDat = false := by
  simp [State.contended, and_assoc]

/-- On a state without a fault the check writes the mark as the lines have it (20 R53). -/
theorem State.checkContention_of_no_fault {s : State} (h : s.fault = none) :
    s.checkContention = { s with
      fault := if s.datCtl = .output ∧ s.datOut = true ∧ s.devDat = false then some .contention
        else none } := by
  simp only [← State.contended_iff]
  rw [State.checkContention_eq]
  cases s
  cases h
  simp only [true_and]
  split <;> rfl

/-- Settles O41: the check after the Device's step looks at the levels it has set. -/
theorem deviceStep : Obligations.DeviceStep := by
  unfold Obligations.DeviceStep
  intro s c d rest hl hs
  have hf : ({ s with sched := rest }.setDevice c d).fault = none := hl.2
  rw [step_device_live hl hs, State.checkContention_of_no_fault hf]
  rfl

/-! ### A grant of the schedule, by the form of the phase's action -/

/-- The step of a known phase is that phase's action. -/
theorem engineStep_of_phase {s : State} {p : Phase} (hp : s.phase = p) :
    engineStep s = engineStep (s.goto p) := by
  cases hp
  rfl

section
variable {s x : State} {p : Phase} {rest : List Move}
variable (hl : s.live) (hp : s.phase = p) (hs : s.sched = .engine :: rest)
include hl hp hs

/-- A grant to an action that does not wait, and the check after it. -/
theorem step_of_action (h : engineStep ({ s with sched := rest }.goto p) = some x) :
    step s = .next x.checkContention :=
  step_engine_of_some hl hs ((engineStep_of_phase (s := { s with sched := rest }) hp).trans h)

/-- A grant to an action that does not wait and leaves no contention. -/
theorem step_of_quiet_action (h : engineStep ({ s with sched := rest }.goto p) = some x)
    (hx : x.contended = false) : step s = .next x := by
  rw [step_of_action hl hp hs h, State.checkContention_of_not_contended hx]

/-- A grant to an action that drives data: the check looks at the level it has driven. -/
theorem step_of_driving_action (h : engineStep ({ s with sched := rest }.goto p) = some x)
    (hf : x.fault = none) (hd : x.datCtl = .output) :
    step s = .next { x with
      fault := if x.datOut = true ∧ x.devDat = false then some .contention else none } := by
  rw [step_of_action hl hp hs h, State.checkContention_of_no_fault hf]
  simp only [hd, true_and]

/-- A grant to a wait: its exit actions, or a stutter (log 3). -/
theorem step_of_waitUntil {c : Bool}
    (h : engineStep ({ s with sched := rest }.goto p) = waitUntil c x) (hx : x.contended = false) :
    step s = .next (if c = true then x else { s with sched := rest }) := by
  cases c
  · rw [step_engine hs]
    exact engineMove_of_none hl ((engineStep_of_phase (s := { s with sched := rest }) hp).trans h)
  · exact step_of_quiet_action hl hp hs h hx

/-- A grant to a wait for CLK to be low. -/
theorem step_of_waitLow
    (h : engineStep ({ s with sched := rest }.goto p) = waitUntil (!s.wireClk) x)
    (hx : x.contended = false) :
    step s = .next (if s.wireClk = false then x else { s with sched := rest }) := by
  rw [step_of_waitUntil hl hp hs h hx]
  simp only [Bool.not_eq_true']

end

/-- Settles O29: an idle or held Engine has no enabled step, and an empty schedule names it
again. -/
theorem heldEngineStays : Obligations.HeldEngineStays := by
  unfold Obligations.HeldEngineStays
  have hnone : ∀ s : State, s.held = true ∨ s.phase = .idle → engineStep s = none := fun s h =>
    h.elim engineStep_of_held engineStep_of_idle
  constructor
  · intro s rest hl h hs
    rw [step_engine hs]
    exact engineMove_of_none hl (hnone { s with sched := rest } h)
  · intro n s hl h hs
    have hstep : step s = .next s := by rw [step_nil hs, engineMove_of_none hl (hnone s h)]
    induction n with
    | zero => rfl
    | succ n ih => rw [runSteps_of_step hstep, ih]

/-! ### The waits without exit actions (R97, R99, R102, R108, R110, R112) -/

/-- Settles O30, wait by wait. -/
theorem plainWaits : Obligations.PlainWaits := by
  unfold Obligations.PlainWaits
  intro p q v hmem s rest hl hc hp hs
  simp only [List.mem_cons, Prod.mk.injEq, List.not_mem_nil, or_false] at hmem
  obtain ⟨rfl, rfl, rfl⟩ | ⟨rfl, rfl, rfl⟩ | ⟨rfl, rfl, rfl⟩ | ⟨rfl, rfl, rfl⟩ | ⟨rfl, rfl, rfl⟩ |
    ⟨rfl, rfl, rfl⟩ | ⟨rfl, rfl, rfl⟩ | ⟨rfl, rfl, rfl⟩ | ⟨rfl, rfl, rfl⟩ := hmem
  · exact step_of_waitLow hl hp hs rfl hc
  · exact step_of_waitLow hl hp hs rfl hc
  · exact step_of_waitLow hl hp hs rfl hc
  · exact step_of_waitUntil hl hp hs rfl hc
  · exact step_of_waitLow hl hp hs rfl hc
  · exact step_of_waitLow hl hp hs rfl hc
  · exact step_of_waitUntil hl hp hs rfl hc
  · exact step_of_waitUntil hl hp hs rfl hc
  · exact step_of_waitLow hl hp hs rfl hc

/-! ### RDEV (R98, R100, R101, R103, R104) -/

/-- Settles O31: the wait of RR_S1 with its exit actions. -/
theorem startCellClears : Obligations.StartCellClears := by
  unfold Obligations.StartCellClears
  intro s rest hl hc hp hs
  exact step_of_waitUntil hl hp hs rfl hc

theorem getLsbD_setBit (b : Byte) {i : BitVec 4} (hi : i.toNat < 8) (j : Nat) :
    (setBit b i).getLsbD j = (decide (j = i.toNat) || b.getLsbD j) := by
  rw [setBit, ← BitVec.twoPow_eq, BitVec.getLsbD_or, BitVec.getLsbD_twoPow, decide_eq_true hi,
    Bool.true_and, Bool.or_comm]
  simp only [eq_comm]

/-- Settles O32, from the bits of the byte with the sample put in. -/
theorem sampleSetsOneBit : Obligations.SampleSetsOneBit := by
  unfold Obligations.SampleSetsOneBit
  intro s rest hl hc hp hi hs
  refine ⟨if s.wireDat then setBit s.shreg s.bitIdx else s.shreg,
    step_of_quiet_action hl hp hs rfl hc, fun j hj => ?_⟩
  cases s.wireDat
  · simp
  · simp only [if_true, getLsbD_setBit _ hi, Bool.or_true]
    split <;> simp [*]

/-- The bit loops compare the counter before it could wrap (10 R32). -/
theorem succ_lt_eight_iff {i : BitVec 4} (h : i.toNat < 8) : i + 1 < 8#4 ↔ i.toNat + 1 < 8 := by
  rw [BitVec.lt_def, toNat_succ_of_lt_eight h]
  rfl

/-- Settles O33: both loops are waits whose exit counts and compares. -/
theorem bitLoops : Obligations.BitLoops := by
  unfold Obligations.BitLoops
  intro s rest hl hc hi hs
  simp only [← succ_lt_eight_iff hi]
  constructor
  · intro hp
    exact step_of_waitUntil hl hp hs rfl hc
  · intro hp
    exact step_of_waitLow hl hp hs rfl hc

theorem deliver_contended (s : State) (b : Byte) : (s.deliver b).contended = s.contended := by
  obtain ⟨g, hd⟩ | ⟨e, -, hd⟩ := deliver_cases s b <;> rw [hd] <;> rfl

/-- RR_T1 with CLK high delivers the byte received (R102, R103). -/
theorem engineStep_rrT1 {s : State} (hp : s.phase = .rrT1) (hclk : s.wireClk = true) :
    engineStep s = some (s.deliver s.shreg) := by
  simp only [engineStep, hp, phaseRrT1, hclk]
  rfl

/-- The step of a grant that delivers. -/
theorem step_deliver {s : State} {rest : List Move} (hl : s.live) (hc : s.contended = false)
    (hp : s.phase = .rrT1) (hclk : s.wireClk = true) (hs : s.sched = .engine :: rest) :
    step s = .next ({ s with sched := rest }.deliver s.shreg) := by
  have he := engineStep_rrT1 (s := { s with sched := rest }) hp hclk
  have hx : ({ s with sched := rest }.deliver s.shreg).contended = false :=
    (deliver_contended _ _).trans hc
  exact (step_engine_of_some hl hs he).trans
    (congrArg _ (State.checkContention_of_not_contended hx))

/-- Settles O34: `deliver` on each set of lead-ins read so far. -/
theorem deliverDispatch : Obligations.DeliverDispatch := by
  unfold Obligations.DeliverDispatch
  intro s rest hl hc hp hclk hs
  rw [step_deliver hl hc hp hclk hs, State.deliver]
  cases s.rdStage <;> rfl

/-- Settles O35: neither phase waits. -/
theorem rdevReleasesAndInhibits : Obligations.RdevReleasesAndInhibits := by
  unfold Obligations.RdevReleasesAndInhibits
  intro s rest hl hs
  constructor
  · intro hp
    exact step_of_quiet_action hl hp hs rfl rfl
  · intro hp hc
    exact step_of_quiet_action hl hp hs rfl hc

/-! ### WRB (R106, R107, R109, R111, R113 to R116) -/

/-- Settles O36: neither phase waits, and WR_RTS drives the data line low. -/
theorem requestToSend : Obligations.RequestToSend := by
  unfold Obligations.RequestToSend
  intro s rest hl hs
  constructor
  · intro hp
    exact step_of_quiet_action hl hp hs rfl rfl
  · intro hp hc
    exact step_of_quiet_action hl hp hs rfl hc

/-- Settles O37: the check after the step looks at the bit it has driven. -/
theorem putDrivesDataBit : Obligations.PutDrivesDataBit := by
  unfold Obligations.PutDrivesDataBit
  intro s rest hl hd hp hs
  exact step_of_driving_action hl hp hs rfl hl.2 hd

/-- The parity bit makes the count of ones odd (R111). -/
theorem oddParity_odd (ones : BitVec 4) :
    (ones.toNat + if oddParity ones then 1 else 0) % 2 = 1 := by
  unfold oddParity
  simp only [beq_iff_eq]
  split <;> omega

/-- Settles O38, with the parity bit of the count. -/
theorem parityMakesOnesOdd : Obligations.ParityMakesOnesOdd := by
  unfold Obligations.ParityMakesOnesOdd
  intro s rest hl hd hp hs
  exact ⟨oddParity s.ones, oddParity_odd s.ones, step_of_driving_action hl hp hs rfl hl.2 hd⟩

/-- Settles O39: four actions, one of them a joint wait. -/
theorem releaseAcknowledgeInhibit : Obligations.ReleaseAcknowledgeInhibit := by
  unfold Obligations.ReleaseAcknowledgeInhibit
  intro s rest hl hc hs
  refine ⟨fun hp => ?_, fun hp => ?_, fun hp => ?_, fun hp => ?_⟩
  · exact step_of_quiet_action hl hp hs rfl rfl
  · exact step_of_quiet_action hl hp hs rfl hc
  · simp only [← Bool.and_eq_true]
    exact step_of_waitUntil hl hp hs rfl hc
  · exact step_of_quiet_action hl hp hs rfl hc

/-! ### The end of a command (R93, R94, R125) -/

/-- The Engine returns to IDLE only as it inhibits the bus and completes (R104, R116). -/
theorem engineStep_to_idle {s t : State} (h : engineStep s = some t) (ht : t.phase = .idle) :
    (s.phase = .reInh ∧ t = s.driveClkLow.complete .rdev (.event s.ev)) ∨
    (s.phase = .wrInh ∧ t = s.driveClkLow.complete .wrb .none) := by
  cases hp : s.phase <;> simp only [engineStep, hp, reduceCtorEq] at h
  case reInh => exact .inl ⟨rfl, (Option.some.inj h).symm⟩
  case wrInh => exact .inr ⟨rfl, (Option.some.inj h).symm⟩
  case rrT1 =>
    obtain ⟨-, rfl⟩ := waitUntil_eq_some.mp h
    obtain ⟨g, hd⟩ | ⟨e, -, hd⟩ := deliver_cases s s.shreg <;> rw [hd] at ht <;> cases ht
  case rrB1 | wrB0 =>
    obtain ⟨-, rfl⟩ := waitUntil_eq_some.mp h
    rw [State.goto_phase] at ht
    split at ht <;> cases ht
  case reRel | rrBS | wrRts | wrRelc | wrPut | wrPar | wrReld | wrDly =>
    obtain rfl := Option.some.inj h
    cases ht
  all_goals
    obtain ⟨-, rfl⟩ := waitUntil_eq_some.mp h
    cases ht

/-- Settles O54: of the steps from a busy phase only those of the two inhibiting phases reach IDLE; the
pins are those of the invariant. -/
theorem commandEndsByCompletion : Obligations.CommandEndsByCompletion := by
  unfold Obligations.CommandEndsByCompletion
  intro s t hinv h hnr hbusy ht
  obtain ⟨⟨rest, hs⟩, -⟩ | ⟨-, -, ⟨-, rfl⟩ | ⟨u, hu, rfl⟩⟩ | ⟨-, c, d, rest, -, rfl⟩ |
    ⟨-, w, rest, -, u, rfl, ⟨code, rfl⟩ | ⟨i, -, hi⟩⟩ := step_next_cases h
  · exact absurd hs (hnr rest)
  · exact absurd ht hbusy
  · have hpins := hinv.pins
    rw [State.checkContention_phase] at ht
    obtain ⟨hp, rfl⟩ | ⟨hp, rfl⟩ := engineStep_to_idle hu ht
    all_goals
      rw [State.popped_phase] at hp
      rw [hp] at hpins
      obtain ⟨-, hdat⟩ := Prod.mk.inj hpins
      simp [hp, hdat]
  · exact absurd (by simpa using ht) hbusy
  · exact absurd ht hbusy
  · obtain ⟨hl, ⟨code, rfl⟩ | ⟨hidle, -⟩⟩ := exec_next_cases hi
    · exact absurd ht hbusy
    · exact absurd hidle hbusy

end Sys2Proof.Machine
end

section
/-! PROOFS. HOST_KEEPS_UP (40_protocol_engine R120): how many steps the Engine has before it is idle or
held, and the runs of a schedule that gives them (log 12). -/

namespace Sys2Proof.Machine

/-! ### The Engine's steps between two moves of another agent -/

/-- The most steps the Engine has, with CLK at a level, before it is idle or held (R90, R91). -/
def Phase.stepsLeft (clk : Level) : Phase → Nat
  | .idle => 0
  | .reRel => if clk then 1 else 2
  | .rrS0 => if clk then 0 else 1
  | .rrS1 => if clk then 1 else 0
  | .rrB0 => if clk then 0 else 2
  | .rrBS => if clk then 2 else 1
  | .rrB1 => if clk then 1 else 0
  | .rrP0 => if clk then 0 else 1
  | .rrP1 => if clk then 1 else 0
  | .rrT0 => if clk then 0 else 1
  | .rrT1 => if clk then 2 else 0
  | .reInh => 1
  | .wrRts => if clk then 2 else 4
  | .wrRelc => if clk then 1 else 3
  | .wrS0 => if clk then 0 else 2
  | .wrPut => if clk then 2 else 1
  | .wrB1 => if clk then 1 else 0
  | .wrB0 => if clk then 0 else 2
  | .wrPar => if clk then 2 else 1
  | .wrP1 => if clk then 1 else 0
  | .wrP0 => if clk then 0 else 3
  | .wrReld => if clk then 4 else 2
  | .wrDly => if clk then 3 else 1
  | .wrAck => if clk then 2 else 0
  | .wrInh => 1

/-- The steps the Engine has left in a state. -/
def State.stepsLeft (s : State) : Nat := s.phase.stepsLeft s.wireClk

/-- Four steps are the most, from WR_RTS or WR_RELD (log 12). -/
theorem State.stepsLeft_le (s : State) : s.stepsLeft ≤ keepUpGrants := by
  unfold State.stepsLeft
  cases s.phase <;> cases s.wireClk <;> decide

/-- A step that leaves CLK alone uses one up if the table has fewer left in the next phase. -/
theorem State.stepsLeft_lt {s t : State} {p q : Phase} {clk : Level} (hp : s.phase = p)
    (hclk : s.wireClk = clk) (hw : t.wireClk = s.wireClk) (hq : t.phase = q)
    (h : q.stepsLeft clk < p.stepsLeft clk) : t.stepsLeft < s.stepsLeft := by
  rwa [State.stepsLeft, State.stepsLeft, hw, hclk, hq, hp]

/-- So does a step that releases CLK, which then follows the Device. -/
theorem State.stepsLeft_lt_of_released {s t : State} {p q : Phase} (hp : s.phase = p)
    (hw : t.wireClk = s.devClk) (hq : t.phase = q)
    (h : ∀ host dev : Level, q.stepsLeft dev < p.stepsLeft (host && dev)) :
    t.stepsLeft < s.stepsLeft := by
  rw [State.stepsLeft, State.stepsLeft, hw, hq, hp]
  exact h s.hostClk s.devClk

/-- Every Engine step uses one up: CLK changes only where the host releases it (RE_REL, WR_RELC) or
drives it low to complete. -/
theorem engineStep_stepsLeft {s t : State} (h : engineStep s = some t) :
    t.stepsLeft < s.stepsLeft := by
  cases hp : s.phase <;> simp only [engineStep, hp, reduceCtorEq] at h
  case reRel | wrRelc =>
    obtain rfl := Option.some.inj h
    exact State.stepsLeft_lt_of_released hp rfl (State.goto_phase _ _) (by decide)
  case reInh | wrInh =>
    obtain rfl := Option.some.inj h
    rw [State.stepsLeft, State.stepsLeft, hp]
    exact Nat.one_pos
  case rrBS | wrRts | wrPut | wrPar | wrReld | wrDly =>
    obtain rfl := Option.some.inj h
    cases hclk : s.wireClk
    all_goals exact State.stepsLeft_lt hp hclk rfl (State.goto_phase _ _) (by decide)
  case rrT1 =>
    obtain ⟨hclk, rfl⟩ := waitUntil_eq_some.mp h
    obtain ⟨g, hd⟩ | ⟨e, -, hd⟩ := deliver_cases s s.shreg <;> rw [hd]
    · exact State.stepsLeft_lt hp hclk rfl (State.nextByte_phase s g) (by decide)
    · exact State.stepsLeft_lt hp hclk rfl (State.deliverEvent_phase s e) (by decide)
  case rrB1 =>
    obtain ⟨hclk, rfl⟩ := waitUntil_eq_some.mp h
    split <;> exact State.stepsLeft_lt hp hclk rfl (State.goto_phase _ _) (by decide)
  case wrB0 =>
    obtain ⟨hclk, rfl⟩ := waitUntil_eq_some.mp h
    rw [Bool.not_eq_true'] at hclk
    split <;> exact State.stepsLeft_lt hp hclk rfl (State.goto_phase _ _) (by decide)
  case rrS1 | rrP1 | wrB1 | wrP1 =>
    obtain ⟨hclk, rfl⟩ := waitUntil_eq_some.mp h
    exact State.stepsLeft_lt hp hclk rfl (State.goto_phase _ _) (by decide)
  case wrAck =>
    obtain ⟨hlines, rfl⟩ := waitUntil_eq_some.mp h
    obtain ⟨hclk, -⟩ := Bool.and_eq_true_iff.mp hlines
    exact State.stepsLeft_lt hp hclk rfl (State.goto_phase _ _) (by decide)
  all_goals
    obtain ⟨hclk, rfl⟩ := waitUntil_eq_some.mp h
    rw [Bool.not_eq_true'] at hclk
    exact State.stepsLeft_lt hp hclk rfl (State.goto_phase _ _) (by decide)

/-! ### The schedule, apart from the state it runs on -/

/-- The state with other moves to come. -/
def State.withSched (s : State) (ms : List Move) : State := { s with sched := ms }

theorem map_waitUntil (f : State → State) (c : Bool) (x : State) :
    (waitUntil c x).map f = waitUntil c (f x) := by cases c <;> rfl

theorem deliver_withSched (s : State) (b : Byte) (ms : List Move) :
    (s.deliver b).withSched ms = (s.withSched ms).deliver b := by
  have hg : (s.withSched ms).rdStage = s.rdStage := rfl
  simp only [State.deliver, hg]
  cases s.rdStage with
  | first => dsimp only; split_ifs <;> rfl
  | afterE0 => dsimp only; split_ifs <;> rfl
  | afterF0 | afterE0F0 => rfl

/-- The Engine reads no move to come, and leaves them. -/
theorem engineStep_withSched (s : State) (ms : List Move) :
    (engineStep s).map (State.withSched · ms) = engineStep (s.withSched ms) := by
  have hph : (s.withSched ms).phase = s.phase := rfl
  cases hp : s.phase <;> simp only [engineStep, hp, hph]
  case idle | reRel | rrBS | reInh | wrRts | wrRelc | wrPut | wrPar | wrReld | wrDly | wrInh => rfl
  case rrT1 => exact (map_waitUntil _ _ _).trans (congrArg _ (deliver_withSched _ _ _))
  all_goals exact map_waitUntil _ _ _

theorem State.withSched_of_sched {s : State} {ms : List Move} (h : s.sched = ms) :
    s.withSched ms = s := by
  cases h
  rfl

/-! ### One move -/

section
variable {s t : State} {ms : List Move} (hl : s.live)
include hl

theorem step_withSched_of_some (h : engineStep s = some t) :
    step (s.withSched (.engine :: ms)) = .next (t.withSched ms).checkContention := by
  have he : engineStep (s.withSched ms) = some (t.withSched ms) := by
    rw [← engineStep_withSched, h]
    rfl
  exact step_engine_of_some (s := s.withSched (.engine :: ms)) hl rfl he

theorem step_withSched_of_none (h : engineStep s = none) :
    step (s.withSched (.engine :: ms)) = .next (s.withSched ms) := by
  have he : engineStep (s.withSched ms) = none := by
    rw [← engineStep_withSched, h]
    rfl
  exact (step_engine rfl).trans (engineMove_of_none (s := s.withSched ms) hl he)

end

/-- An Engine step keeps a live state live. -/
theorem engineStep_live {s t : State} (hl : s.live) (h : engineStep s = some t) : t.live := by
  obtain ⟨-, -, -, -, -, -, -, -, hfault, hrefused, -⟩ := engineStep_frame h
  obtain ⟨hr, hf⟩ := hl
  exact ⟨hrefused.trans hr, hfault.trans hf⟩

/-! ### As many Engine moves as the Engine has steps left -/

theorem engineStep_of_stepsLeft_zero {s : State} (h : s.stepsLeft ≤ 0) : engineStep s = none := by
  cases he : engineStep s with
  | none => rfl
  | some t => exact absurd (engineStep_stepsLeft he) (by omega)

/-- A fault that is set halts the next grant (60 R164). -/
theorem runSteps_of_fault {s : State} {code : FaultCode} {n : Nat} {ms : List Move}
    (hr : s.refused = false) (hf : s.fault = some code) :
    runSteps (n + 1) (s.withSched (.engine :: ms)) = .fault (.halted code) := by
  have hstep : step (s.withSched (.engine :: ms)) = .fault (.halted code) := by
    rw [step_engine rfl, engineMove, guarded, State.withSched]
    simp only [hr, hf]
    rfl
  rw [runSteps_succ, hstep]

/-- The moves leave the Engine idle or held, or contention has halted it. -/
theorem runSteps_grants {n : Nat} {s : State} (rest : List Move) (hl : s.live)
    (hn : engineStep s = none ∨ s.stepsLeft ≤ n) :
    (∃ t, runSteps n (s.withSched (List.replicate n .engine ++ rest)) = .next t ∧
      engineStep t = none ∧ t.sched = rest) ∨
    runSteps n (s.withSched (List.replicate n .engine ++ rest)) = .fault (.halted .contention) := by
  induction n generalizing s with
  | zero =>
    have he : engineStep s = none := hn.elim id engineStep_of_stepsLeft_zero
    refine .inl ⟨s.withSched rest, rfl, ?_, rfl⟩
    rw [← engineStep_withSched, he]
    rfl
  | succ n ih =>
    rw [List.replicate_succ, List.cons_append]
    cases he : engineStep s with
    | none =>
      rw [runSteps_of_step (step_withSched_of_none hl he)]
      exact ih hl (.inl he)
    | some t =>
      have hlt := engineStep_stepsLeft he
      have hleft : t.stepsLeft ≤ n := by
        obtain hnone | hle := hn
        · cases he.symm.trans hnone
        · omega
      rw [runSteps_of_step (step_withSched_of_some hl he), State.checkContention_eq]
      split
      · cases n with
        | zero => exact .inl ⟨_, rfl, engineStep_of_stepsLeft_zero hleft, rfl⟩
        | succ n =>
          obtain ⟨hr, -⟩ := engineStep_live hl he
          exact .inr (runSteps_of_fault (s := t.raise .contention) hr rfl)
      · exact ih (engineStep_live hl he) (.inr hleft)

/-- Settles O57: four is the most steps the Engine can have left. -/
theorem keepUpGrantsSuffice : Obligations.KeepUpGrantsSuffice := by
  unfold Obligations.KeepUpGrantsSuffice
  intro s rest hl hs
  have h := runSteps_grants rest hl (.inr s.stepsLeft_le)
  rw [State.withSched_of_sched hs] at h
  obtain ⟨t, hrun, ht⟩ | hrun := h
  · rw [hrun]
    exact ht
  · rw [hrun]

end Sys2Proof.Machine
end

section
/-! PROOFS. Runs of a part of a schedule, and the runs of HOST_KEEPS_UP (40_protocol_engine R120;
log 12). -/

namespace Sys2Proof.Machine

/-- From `s` the moves `ms` lead to `t`, whatever moves come after them. -/
def State.Takes (s : State) (ms : List Move) (t : State) : Prop :=
  ∀ rest, runSteps ms.length (s.withSched (ms ++ rest)) = .next (t.withSched rest)

theorem State.Takes.run {s t : State} {ms rest : List Move} (h : s.Takes ms t)
    (hs : s.sched = ms ++ rest) : runSteps ms.length s = .next (t.withSched rest) := by
  rw [← h rest, State.withSched_of_sched hs]

theorem State.Takes.nil (s : State) : s.Takes [] s := fun _ => rfl

theorem State.Takes.append {s t u : State} {ms ns : List Move} (h : s.Takes ms t)
    (h' : t.Takes ns u) : s.Takes (ms ++ ns) u := by
  intro rest
  rw [List.length_append, List.append_assoc, runSteps_add (h (ns ++ rest)), h' rest]

/-- One move, then the others. -/
theorem State.Takes.cons {s t u : State} {m : Move} {ms : List Move}
    (h : ∀ rest, step (s.withSched (m :: rest)) = .next (t.withSched rest)) (h' : t.Takes ms u) :
    s.Takes (m :: ms) u := by
  intro rest
  rw [List.length_cons, List.cons_append, runSteps_of_step (h (ms ++ rest)), h' rest]

/-- A Device step that does not contend. -/
theorem State.takes_device {s : State} {c d : Level} (hl : s.live)
    (hc : (s.setDevice c d).contended = false) : s.Takes [.device c d] (s.setDevice c d) := by
  refine .cons (fun rest => ?_) (.nil _)
  rw [step_device_live (s := s.withSched (.device c d :: rest)) hl rfl]
  exact congrArg _ (State.checkContention_of_not_contended
    (s := (s.setDevice c d).withSched rest) hc)

/-! ### The Engine runs until it is idle or held -/

/-- The Engine runs from `s`, without contention, and is idle or held in `t` (R90, R120). -/
inductive State.Settles : State → State → Prop where
  /-- It has no enabled step. -/
  | stuck {s : State} (h : engineStep s = none) : Settles s s
  /-- It takes the action of its phase and goes on. -/
  | action {s t u : State} (h : engineStep s = some t) (hc : t.contended = false)
      (h' : Settles t u) : Settles s u

theorem State.takes_of_none {s : State} (hl : s.live) (h : engineStep s = none) (n : Nat) :
    s.Takes (List.replicate n .engine) s := by
  induction n with
  | zero => exact .nil s
  | succ n ih => exact .cons (fun _ => step_withSched_of_none hl h) ih

theorem State.Settles.takes {s t : State} (h : s.Settles t) (hl : s.live) {n : Nat}
    (hn : s.stepsLeft ≤ n) : s.Takes (List.replicate n .engine) t := by
  induction h generalizing n with
  | stuck h => exact State.takes_of_none hl h n
  | @action s t u h hc _ ih =>
    have hlt := engineStep_stepsLeft h
    obtain ⟨n, rfl⟩ : ∃ k, n = k + 1 := ⟨n - 1, by omega⟩
    refine .cons (fun rest => ?_) (ih (engineStep_live hl h) (by omega))
    rw [step_withSched_of_some hl h]
    exact congrArg _ (State.checkContention_of_not_contended (s := t.withSched rest) hc)

/-- The grants of HOST_KEEPS_UP are enough for the Engine to settle (R120). -/
theorem State.Settles.takes_grants {s t : State} (h : s.Settles t) (hl : s.live) :
    s.Takes (List.replicate keepUpGrants .engine) t :=
  h.takes hl s.stepsLeft_le

/-! ### A Device script under HOST_KEEPS_UP -/

theorem keepUp_append (xs ys : List (Level × Level)) : keepUp (xs ++ ys) = keepUp xs ++ keepUp ys :=
  List.flatMap_append

theorem length_keepUp (script : List (Level × Level)) :
    (keepUp script).length = 5 * script.length := by
  induction script with
  | nil => rfl
  | cons p script ih =>
    have hp : (keepUp [p]).length = 5 := rfl
    rw [← List.singleton_append, keepUp_append, List.length_append, hp, ih, List.length_append,
      List.length_singleton, Nat.mul_add]

/-- One Device step, the Engine settles, and then the rest of the script. -/
theorem State.takes_keepUp_cons {s t u : State} {c d : Level} {script : List (Level × Level)}
    (hl : s.live) (hc : (s.setDevice c d).contended = false) (hset : (s.setDevice c d).Settles t)
    (h : t.Takes (keepUp script) u) : s.Takes (keepUp ((c, d) :: script)) u :=
  ((State.takes_device hl hc).append (hset.takes_grants hl)).append h

end Sys2Proof.Machine
end

section
/-! PROOFS. Reception under HOST_KEEPS_UP: the cells of a frame, the bytes of a lead-in sequence, RDEV
(40_protocol_engine R96 to R104, R118, R121, R124; 30_encoding R73, R79). -/

namespace Sys2Proof.Machine

/-! ### The states of a reception -/

/-- The bus released for RDEV, with the registers of the reception and the Device's levels. -/
def State.reading (s : State) (p : Phase) (g : RdStage) (i : BitVec 4) (b : Byte) (c d : Level) :
    State :=
  { s with
    phase := p, clkCtl := .release, datCtl := .inputPullup, rdStage := g, bitIdx := i, shreg := b
    devClk := c, devDat := d }

/-- The low `k` bits of a byte. -/
def lowBits (b : Byte) (k : Nat) : Byte := (b.setWidth k).setWidth 8

theorem getLsbD_lowBits (b : Byte) (k : Nat) {j : Nat} (hj : j < 8) :
    (lowBits b k).getLsbD j = (decide (j < k) && b.getLsbD j) := by
  simp [lowBits, BitVec.getLsbD_setWidth, hj]

theorem lowBits_zero (b : Byte) : lowBits b 0 = 0 := by
  apply BitVec.eq_of_getLsbD_eq
  intro j hj
  simp [getLsbD_lowBits _ _ hj]

theorem lowBits_eight (b : Byte) : lowBits b 8 = b := by simp [lowBits]

theorem toNat_ofNat_of_lt_eight {k : Nat} (hk : k < 8) : (BitVec.ofNat 4 k).toNat = k :=
  Nat.mod_eq_of_lt (show k < 2 ^ 4 by omega)

theorem ofNat_succ (k : Nat) : BitVec.ofNat 4 k + 1 = BitVec.ofNat 4 (k + 1) :=
  (BitVec.ofNat_add k 1).symm

/-- The bit loops' comparison, with the counter as a number (R101, R110). -/
theorem ofNat_succ_lt_eight_iff {k : Nat} (hk : k < 8) :
    BitVec.ofNat 4 k + 1 < 8#4 ↔ k + 1 < 8 := by
  have hi := toNat_ofNat_of_lt_eight hk
  rw [succ_lt_eight_iff (hi.symm ▸ hk), hi]

/-- Sampling bit `k` adds it to the `k` low bits (R100). -/
theorem lowBits_succ (b : Byte) {k : Nat} (hk : k < 8) :
    (if b.getLsbD k then setBit (lowBits b k) (BitVec.ofNat 4 k) else lowBits b k) =
      lowBits b (k + 1) := by
  have hi := toNat_ofNat_of_lt_eight hk
  apply BitVec.eq_of_getLsbD_eq
  intro j hj
  have hset := getLsbD_setBit (lowBits b k) (i := BitVec.ofNat 4 k) (by omega) j
  rw [hi, getLsbD_lowBits _ _ hj] at hset
  have hlt : j < k + 1 ↔ j < k ∨ j = k := Nat.lt_succ_iff_lt_or_eq
  by_cases hb : b.getLsbD k = true
  · rw [if_pos hb, hset, getLsbD_lowBits _ _ hj]
    by_cases hjk : j = k <;> simp [hlt, hjk, hb]
  · rw [if_neg hb, getLsbD_lowBits _ _ hj, getLsbD_lowBits _ _ hj]
    by_cases hjk : j = k <;> simp [hlt, hjk, hb]

/-- With CLK high the Engine is held in a wait for CLK low (R90). -/
theorem engineStep_reading_of_waitsLow (s : State) {p : Phase} (hp : p.waitsFor = some false)
    (g : RdStage) (i : BitVec 4) (b : Byte) (d : Level) :
    engineStep (s.reading p g i b true d) = none := by
  refine engineStep_of_held ?_
  have hph : (s.reading p g i b true d).phase = p := rfl
  rw [State.held, hph, hp]
  rfl

/-- A state that waits for a frame is its own reception. -/
theorem State.reading_self {s : State} (hp : s.phase = .rrS0) (hclk : s.clkCtl = .release)
    (hdat : s.datCtl = .inputPullup) (hdev : s.devClk = true) :
    s.reading .rrS0 s.rdStage s.bitIdx s.shreg true s.devDat = s := by
  cases s
  simp_all [State.reading]

/-! ### The cells of a frame -/

/-- The Device's steps for a frame before its last clock-high step (30 R73; 40 R118). -/
def frameHead (start : Level) (b : Byte) (parity stop : Level) : List (Level × Level) :=
  sendCell start ++ (dataCells b).flatMap sendCell ++ sendCell parity ++
    [(true, stop), (false, stop)]

theorem sendCells_frameCells (start : Level) (b : Byte) (parity stop : Level) :
    sendCells (frameCells start b parity stop) =
      frameHead start b parity stop ++ [(true, stop), (true, true)] := by
  simp [sendCells, frameCells, frameHead, sendCell]

/-- The moves of a frame: up to the last clock-high step, and the rest. -/
theorem keepUp_sendCells (start : Level) (b : Byte) (parity stop : Level) :
    keepUp (sendCells (frameCells start b parity stop)) =
      (keepUp (frameHead start b parity stop) ++ [.device true stop]) ++
        (List.replicate keepUpGrants .engine ++ keepUp [(true, true)]) := by
  rw [sendCells_frameCells, keepUp_append, List.append_assoc]
  rfl

section
variable {s : State} (hl : s.live) (g : RdStage)
include hl

/-- The Device clocks one cell: the Engine waits for CLK low, runs until it waits for CLK high, and runs
until it waits for CLK low again. -/
theorem takes_sendCell {p q r : Phase} {i i' i'' : BitVec 4} {b b' b'' : Byte} {v d : Level}
    (hwait : engineStep (s.reading p g i b true v) = none)
    (hlow : (s.reading p g i b false v).Settles (s.reading q g i' b' false v))
    (hhigh : (s.reading q g i' b' true v).Settles (s.reading r g i'' b'' true v)) :
    (s.reading p g i b true d).Takes (keepUp (sendCell v)) (s.reading r g i'' b'' true v) :=
  State.takes_keepUp_cons hl rfl (.stuck hwait)
    (State.takes_keepUp_cons hl rfl hlow (State.takes_keepUp_cons hl rfl hhigh (.nil _)))

theorem takes_startCell (i : BitVec 4) (b : Byte) (v d : Level) :
    (s.reading .rrS0 g i b true d).Takes (keepUp (sendCell v)) (s.reading .rrB0 g 0 0 true v) :=
  takes_sendCell hl g rfl (.action rfl rfl (.stuck rfl)) (.action rfl rfl (.stuck rfl))

theorem takes_parityCell (i : BitVec 4) (b : Byte) (v d : Level) :
    (s.reading .rrP0 g i b true d).Takes (keepUp (sendCell v)) (s.reading .rrT0 g i b true v) :=
  takes_sendCell hl g rfl (.action rfl rfl (.stuck rfl)) (.action rfl rfl (.stuck rfl))

/-- A data cell: the sample is put into `shreg`, and `bit_idx` counts it (R99 to R101). -/
theorem takes_dataCell (i : BitVec 4) (b : Byte) (v d : Level) :
    (s.reading .rrB0 g i b true d).Takes (keepUp (sendCell v))
      (s.reading (if i + 1 < 8#4 then .rrB0 else .rrP0) g (i + 1) (if v then setBit b i else b)
        true v) :=
  have hwait : (if i + 1 < 8#4 then Phase.rrB0 else Phase.rrP0).waitsFor = some false := by
    split <;> rfl
  takes_sendCell hl g (i' := i) (b' := if v then setBit b i else b) rfl
    (.action rfl rfl (.action rfl rfl (.stuck rfl)))
    (.action rfl rfl (.stuck (engineStep_reading_of_waitsLow s hwait _ _ _ _)))

/-- The first `k` data cells of a byte. -/
theorem takes_dataCells (b : Byte) (d : Level) {k : Nat} (hk : k ≤ 8) :
    ∃ d', (s.reading .rrB0 g 0 0 true d).Takes
      (keepUp (((List.range k).map fun i => b.getLsbD i).flatMap sendCell))
      (s.reading (if k < 8 then .rrB0 else .rrP0) g (BitVec.ofNat 4 k) (lowBits b k) true d') := by
  induction k with
  | zero => exact ⟨d, by rw [lowBits_zero]; exact .nil _⟩
  | succ k ih =>
    obtain ⟨d', ih⟩ := ih (by omega)
    have hcell := takes_dataCell hl g (BitVec.ofNat 4 k) (lowBits b k) (b.getLsbD k) d'
    simp only [lowBits_succ b hk, ofNat_succ_lt_eight_iff hk] at hcell
    rw [ofNat_succ] at hcell
    rw [if_pos (show k < 8 from hk)] at ih
    refine ⟨b.getLsbD k, ?_⟩
    rw [List.range_succ, List.map_append, List.flatMap_append, keepUp_append, List.map_singleton,
      List.flatMap_singleton]
    exact ih.append hcell

/-- A frame up to its last clock-high step: the Engine stands in RR_T1 with the byte (R121, R124). -/
theorem takes_frame (i : BitVec 4) (x b : Byte) (start parity stop d : Level) :
    (s.reading .rrS0 g i x true d).Takes
      (keepUp (frameHead start b parity stop) ++ [.device true stop])
      (s.reading .rrT1 g 8 b true stop) := by
  obtain ⟨d', hdata⟩ := takes_dataCells hl g b start (Nat.le_refl 8)
  rw [lowBits_eight] at hdata
  have hstop : (s.reading .rrT0 g 8 b true parity).Takes (keepUp [(true, stop), (false, stop)])
      (s.reading .rrT1 g 8 b false stop) :=
    State.takes_keepUp_cons hl rfl (.stuck rfl)
      (State.takes_keepUp_cons hl rfl (.action rfl rfl (.stuck rfl)) (.nil _))
  have hhigh : (s.reading .rrT1 g 8 b false stop).Takes [.device true stop]
      (s.reading .rrT1 g 8 b true stop) := State.takes_device hl rfl
  rw [frameHead, keepUp_append, keepUp_append, keepUp_append]
  exact ((((takes_startCell hl g i x start d).append hdata).append
    (takes_parityCell hl g _ _ parity d')).append hstop).append hhigh

end

/-- Settles O58: the run of the frame, and then the step of RR_T1 with CLK high. -/
theorem frameDeliversByte : Obligations.FrameDeliversByte := by
  unfold Obligations.FrameDeliversByte
  intro s b start parity stop rest hl hp hclk hdat hdev hs
  have hrun := takes_frame hl s.rdStage s.bitIdx s.shreg b start parity stop s.devDat
  rw [State.reading_self hp hclk hdat hdev] at hrun
  rw [keepUp_sendCells, List.append_assoc] at hs
  refine ⟨_, hrun.run hs, rfl, rfl, rfl, rfl, rfl, hl, ?_⟩
  exact step_deliver (s := (s.reading .rrT1 s.rdStage 8 b true stop).withSched _) hl rfl rfl rfl rfl

/-! ### The bytes of a lead-in sequence (R103, R104; 30 R79) -/

/-- RDEV completed with an event; the Device has released both lines (R104, R125). -/
def State.received (s : State) (g : RdStage) (b : Byte) (ev : Int) : State :=
  { s.reading .idle g 8 b true true with
    clkCtl := .driveLow, ev := ev, hist := s.hist ++ [⟨.rdev, .event ev⟩] }

section
variable {s : State} (hl : s.live)
include hl

/-- A byte of the Device: its frame, `deliver` and what the Engine does next, and the released lines. -/
theorem takes_devSend (g : RdStage) (i : BitVec 4) (x b : Byte) (d : Level) {t : State}
    (hset : (s.reading .rrT1 g 8 b true true).Settles t) (htl : t.live)
    (hdev : t.setDevice true true = t) (hc : t.contended = false) (hnone : engineStep t = none) :
    (s.reading .rrS0 g i x true d).Takes (keepUp (devSend b)) t := by
  have hlast : t.Takes (keepUp [(true, true)]) t :=
    State.takes_keepUp_cons htl (by rw [hdev, hc]) (by rw [hdev]; exact .stuck hnone) (.nil _)
  rw [devSend, keepUp_sendCells]
  exact (takes_frame hl g i x b false (frameParity b) true d).append
    ((hset.takes_grants hl).append hlast)

/-- A byte that steers: the Engine waits for the next one. -/
theorem takes_leadIn {g g' : RdStage} (i : BitVec 4) (x b : Byte) (d : Level)
    (h : (s.reading .rrT1 g 8 b true true).deliver b =
      (s.reading .rrT1 g 8 b true true).nextByte g') :
    (s.reading .rrS0 g i x true d).Takes (keepUp (devSend b)) (s.reading .rrS0 g' 8 b true true) :=
  takes_devSend hl g i x b d
    (.action ((engineStep_rrT1 rfl rfl).trans (congrArg some h)) rfl (.stuck rfl)) hl rfl rfl rfl

/-- The last byte: the event is built, and RDEV completes with it. -/
theorem takes_lastByte {g : RdStage} {ev : Int} (i : BitVec 4) (x b : Byte) (d : Level)
    (h : (s.reading .rrT1 g 8 b true true).deliver b =
      (s.reading .rrT1 g 8 b true true).deliverEvent ev) :
    (s.reading .rrS0 g i x true d).Takes (keepUp (devSend b)) (s.received g b ev) :=
  takes_devSend hl g i x b d
    (.action ((engineStep_rrT1 rfl rfl).trans (congrArg some h)) rfl
      (.action rfl rfl (.stuck rfl))) hl rfl rfl rfl

end

/-- The four forms of a lead-in sequence (30 R79). -/
theorem decodeSeq_cases {cfg : Config} {bytes : List Byte} {ev : Int}
    (h : decodeSeq cfg bytes = some (ev, [])) :
    (∃ b, bytes = [leadF0, b] ∧ ev = plainRelease b) ∨
    (∃ b, bytes = [leadE0, leadF0, b] ∧ ev = extendedRelease cfg b) ∨
    (∃ b, b ≠ leadF0 ∧ bytes = [leadE0, b] ∧ ev = extendedPress cfg b) ∨
    (∃ b, b ≠ leadE0 ∧ b ≠ leadF0 ∧ bytes = [b] ∧ ev = plainPress b) := by
  cases bytes with
  | nil => cases h
  | cons a rest =>
    by_cases hF : a = leadF0
    · subst hF
      cases rest with
      | nil => cases h
      | cons b rest =>
        cases (decodeSeq_plainRelease cfg b rest).symm.trans h
        exact .inl ⟨b, rfl, rfl⟩
    by_cases hE : a = leadE0
    · subst hE
      cases rest with
      | nil => cases h
      | cons b rest =>
        by_cases hF' : b = leadF0
        · subst hF'
          cases rest with
          | nil => cases h
          | cons c rest =>
            cases (decodeSeq_extendedRelease cfg c rest).symm.trans h
            exact .inr (.inl ⟨c, rfl, rfl⟩)
        · cases (decodeSeq_extendedPress cfg rest hF').symm.trans h
          exact .inr (.inr (.inl ⟨b, hF', rfl, rfl⟩))
    · cases (decodeSeq_plainPress cfg rest hE hF).symm.trans h
      exact .inr (.inr (.inr ⟨a, hE, hF, rfl, rfl⟩))

/-- The bytes of one lead-in sequence complete RDEV with its event (R121). -/
theorem takes_sequence {s : State} (hl : s.live) {bytes : List Byte} {ev : Int}
    (h : decodeSeq s.cfg bytes = some (ev, [])) (i : BitVec 4) (x : Byte) (d : Level) :
    ∃ g b, (s.reading .rrS0 .first i x true d).Takes (keepUp (bytes.flatMap devSend))
      (s.received g b ev) := by
  obtain ⟨b, rfl, rfl⟩ | ⟨b, rfl, rfl⟩ | ⟨b, hF, rfl, rfl⟩ | ⟨b, hE, hF, rfl, rfl⟩ :=
    decodeSeq_cases h
  all_goals
    simp only [List.flatMap_cons, List.flatMap_nil, List.append_nil, keepUp_append]
  · have hF0 := takes_leadIn hl (g := .first) (g' := .afterF0) i x leadF0 d rfl
    exact ⟨.afterF0, b, hF0.append (takes_lastByte hl 8 leadF0 b true rfl)⟩
  · have hE0 := takes_leadIn hl (g := .first) (g' := .afterE0) i x leadE0 d rfl
    have hF0 := takes_leadIn hl (g := .afterE0) (g' := .afterE0F0) 8 leadE0 leadF0 true rfl
    exact ⟨.afterE0F0, b, hE0.append (hF0.append (takes_lastByte hl 8 leadF0 b true rfl))⟩
  · have hE0 := takes_leadIn hl (g := .first) (g' := .afterE0) i x leadE0 d rfl
    exact ⟨.afterE0, b, hE0.append (takes_lastByte hl 8 leadE0 b true (if_neg hF))⟩
  · exact ⟨.first, b, takes_lastByte hl i x b d ((if_neg hF).trans (if_neg hE))⟩

/-! ### RDEV -/

/-- A command word that leads to the same state whatever moves come after it. -/
theorem State.takes_caller {s t : State} {w : Word}
    (h : ∀ ms, callerMove w (s.withSched ms) = .next (t.withSched ms)) : s.Takes [.caller w] t :=
  .cons (fun ms => (step_caller rfl).trans (h ms)) (.nil t)

theorem length_devSend (b : Byte) : (devSend b).length = 34 := rfl

/-- RDEV on the idle configured block, with the Device's clock released, waits for a frame (R104). -/
theorem takes_rdev {s : State} (hl : s.live) (hi : s.phase = .idle) (hv : s.cfgValid = true)
    (hc : s.contended = false) (hdev : s.devClk = true) :
    s.Takes (.caller 0x20000000 :: List.replicate keepUpGrants .engine)
      (s.reading .rrS0 .first s.bitIdx s.shreg true s.devDat) := by
  have hv' : ¬ s.cfgValid = false := by simp [hv]
  have hspells : Command.rdev.Spells 0x20000000 := spells_encode .rdev
  have hword : s.Takes [.caller 0x20000000] (s.goto .reRel) := State.takes_caller fun ms => by
    rw [callerMove_rdev (s := s.withSched ms) hl hi hc hspells]
    exact if_neg hv'
  have hclaim : engineStep (s.goto .reRel) =
      some (s.reading .rrS0 .first s.bitIdx s.shreg true s.devDat) := by
    rw [← hdev]
    rfl
  have hset := State.Settles.action hclaim rfl (.stuck rfl)
  exact hword.append (hset.takes_grants hl)

theorem all_not_isCommand {ms : List Move} (h : ∀ w, .caller w ∉ ms) :
    ms.all (fun m => !m.isCommand) = true := by
  rw [List.all_eq_true]
  intro m hm
  cases m with
  | caller w => exact absurd hm (h w)
  | engine | device c d | reset => rfl

/-- Settles O59: RDEV is accepted, the bytes complete it, and the event is the sequence's. -/
theorem rdevReceivesSequence : Obligations.RdevReceivesSequence := by
  unfold Obligations.RdevReceivesSequence
  intro s bytes ev rest hl hi hv hc hdev hseq hs
  obtain ⟨g, b, hbytes⟩ := takes_sequence hl hseq s.bitIdx s.shreg s.devDat
  have hrun := (takes_rdev hl hi hv hc hdev).append hbytes
  have hlen : (Move.caller 0x20000000 :: List.replicate keepUpGrants .engine ++
      keepUp (bytes.flatMap devSend)).length = 5 + 170 * bytes.length := by
    simp [length_keepUp, List.length_flatMap, length_devSend, keepUpGrants]
    omega
  have hend := hrun.run hs
  rw [hlen] at hend
  refine ⟨(s.received g b ev).withSched rest, hend, rfl, rfl, rfl, rfl, rfl, rfl, hl, rfl, ?_⟩
  intro program hprog hrest
  obtain ⟨hr, hf⟩ := hl
  refine ⟨hr, hf, rfl, ?_, ?_⟩
  · exact all_not_isCommand hrest
  · show (s.hist ++ [_]).map Record.command = _
    rw [List.map_append, List.map_append, hprog]
    rfl

end Sys2Proof.Machine
end

section
/-! PROOFS. Transmission under HOST_KEEPS_UP: the cells on the wire, WRB (40_protocol_engine R105 to
R116, R119; 30_encoding R74; 70_reset_and_hazards R190). -/

namespace Sys2Proof.Machine

/-- A Device that leaves DAT released meets no contention (20 R53). -/
theorem State.not_contended_of_devDat {s : State} (h : s.devDat = true) : s.contended = false := by
  simp [State.contended, h]

/-! ### The states of a transmission -/

/-- The bus claimed for WRB: the byte, the counter, the count of the ones among the low `n` bits, the
level driven, and the Device's clock; the Device leaves DAT released. -/
def State.sending (s : State) (b : Byte) (p : Phase) (k n : Nat) (v c : Level) : State :=
  { s with
    phase := p, clkCtl := .release, datCtl := .output, datOut := v
    bitIdx := BitVec.ofNat 4 k, ones := BitVec.ofNat 4 (onesBelow b n), shreg := b
    devClk := c, devDat := true }

theorem readBit_ofNat (b : Byte) {k : Nat} (hk : k < 8) :
    readBit b (BitVec.ofNat 4 k) = b.getLsbD k := by
  rw [readBit, toNat_ofNat_of_lt_eight hk]

theorem ofNat_onesBelow_succ (b : Byte) (k : Nat) :
    BitVec.ofNat 4 (onesBelow b k) + levelCount (b.getLsbD k) =
      BitVec.ofNat 4 (onesBelow b (k + 1)) := by
  rw [onesBelow, BitVec.ofNat_add]
  cases b.getLsbD k <;> rfl

theorem oddParity_ofNat (b : Byte) :
    oddParity (BitVec.ofNat 4 (onesBelow b 8)) = frameParity b := by
  have hle : onesBelow b 8 < 2 ^ 4 := Nat.lt_of_le_of_lt (onesBelow_le b 8) (by decide)
  rw [oddParity, frameParity, BitVec.toNat_ofNat, Nat.mod_eq_of_lt hle]

section
variable (s : State) (b : Byte) (v c : Level)

/-- WR_PUT drives bit `k` and counts it (R109). -/
theorem engineStep_sending_put {k : Nat} (hk : k < 8) :
    engineStep (s.sending b .wrPut k k v c) =
      some (s.sending b .wrB1 k (k + 1) (b.getLsbD k) c) := by
  change some { s.sending b .wrB1 k k (readBit b (BitVec.ofNat 4 k)) c with
    ones := BitVec.ofNat 4 (onesBelow b k) + levelCount (readBit b (BitVec.ofNat 4 k)) } = _
  rw [readBit_ofNat b hk, ofNat_onesBelow_succ]
  rfl

/-- WR_B0 counts the cell when CLK falls (R110). -/
theorem engineStep_sending_count (n : Nat) {k : Nat} (hk : k < 8) :
    engineStep (s.sending b .wrB0 k n v false) =
      some (s.sending b (if k + 1 < 8 then .wrPut else .wrPar) (k + 1) n v false) := by
  change some { s.sending b (if BitVec.ofNat 4 k + 1 < 8#4 then .wrPut else .wrPar) k n v false with
    bitIdx := BitVec.ofNat 4 k + 1 } = _
  simp only [ofNat_succ_lt_eight_iff hk]
  rw [ofNat_succ]
  rfl

/-- WR_PAR drives the frame's parity (R111). -/
theorem engineStep_sending_parity (k : Nat) :
    engineStep (s.sending b .wrPar k 8 v c) = some (s.sending b .wrP1 k 8 (frameParity b) c) := by
  rw [← oddParity_ofNat]
  rfl

end

/-! ### One cell, one clock pulse -/

/-- One clock pulse of the Device takes `x` to `y`; just after its rising edge DAT carries `v`, with the
history still `h`. -/
def State.SendsCell (h : List Record) (x : State) (v : Level) (y : State) : Prop :=
  ∃ m, x.Takes (keepUp [(false, true)] ++ [.device true true]) m ∧
    m.wireClk = true ∧ m.wireDat = v ∧ m.hist = h ∧
    m.Takes (List.replicate keepUpGrants .engine) y

/-- The Engine settles with CLK low in `m`, and with CLK high in `y`. -/
theorem sendsCell_of_settles {x m y : State} (hx : x.live) (hm : m.live)
    (hlow : (x.setDevice false true).Settles m) (hhigh : (m.setDevice true true).Settles y)
    (hclk : m.hostClk = true) : x.SendsCell m.hist m.hostDat y := by
  refine ⟨m.setDevice true true, ?_, ?_, Bool.and_true _, rfl, hhigh.takes_grants hm⟩
  · have hc : (x.setDevice false true).contended = false := State.not_contended_of_devDat rfl
    exact (State.takes_keepUp_cons (script := []) hx hc hlow (.nil m)).append
      (State.takes_device hm (State.not_contended_of_devDat rfl))
  · rw [State.wireClk, show (m.setDevice true true).hostClk = true from hclk]
    rfl

/-- The Engine waits for the clock pulse of data cell `k`. -/
def State.atCell (s : State) (b : Byte) : Nat → State
  | 0 => s.sending b .wrS0 0 0 false true
  | k + 1 => s.sending b .wrB0 k (k + 1) (b.getLsbD k) true

/-- WRB completed; the Device has released both lines (R116, R125). -/
def State.sent (s : State) (b : Byte) : State :=
  { s.sending b .idle 8 8 (frameParity b) true with
    clkCtl := .driveLow, datCtl := .inputPullup, hist := s.hist ++ [⟨.wrb, .none⟩] }

section
variable {s : State} (hl : s.live) (b : Byte)
include hl

theorem sends_dataCell {k : Nat} (hk : k < 8) :
    (s.atCell b k).SendsCell s.hist (b.getLsbD k) (s.atCell b (k + 1)) := by
  have hdriven : (s.sending b .wrB1 k (k + 1) (b.getLsbD k) false).contended = false :=
    State.not_contended_of_devDat rfl
  have hput (v : Level) : (s.sending b .wrPut k k v false).Settles
      (s.sending b .wrB1 k (k + 1) (b.getLsbD k) false) :=
    .action (engineStep_sending_put s b v false hk) hdriven (.stuck rfl)
  have hlow : ((s.atCell b k).setDevice false true).Settles
      (s.sending b .wrB1 k (k + 1) (b.getLsbD k) false) := by
    cases k with
    | zero => exact .action rfl rfl (hput false)
    | succ k =>
      have hcount := engineStep_sending_count s b (b.getLsbD k) (k + 1) (k := k) (by omega)
      rw [if_pos hk] at hcount
      exact .action hcount (State.not_contended_of_devDat rfl) (hput _)
  have hlive : (s.atCell b k).live := by cases k <;> exact hl
  exact sendsCell_of_settles hlive (m := s.sending b .wrB1 k (k + 1) (b.getLsbD k) false) hl hlow
    (.action rfl (State.not_contended_of_devDat rfl) (.stuck rfl)) rfl

/-- The parity cell: the ninth pulse counts the last data cell, and the parity is driven (R110, R111). -/
theorem sends_parityCell : (s.atCell b 8).SendsCell s.hist (frameParity b)
    (s.sending b .wrP0 8 8 (frameParity b) true) := by
  have hlow : ((s.atCell b 8).setDevice false true).Settles
      (s.sending b .wrP1 8 8 (frameParity b) false) :=
    .action (engineStep_sending_count s b (b.getLsbD 7) 8 (by decide))
      (State.not_contended_of_devDat rfl)
      (.action (engineStep_sending_parity s b _ false 8) (State.not_contended_of_devDat rfl)
        (.stuck rfl))
  exact sendsCell_of_settles hl (m := s.sending b .wrP1 8 8 (frameParity b) false) hl hlow
    (.action rfl (State.not_contended_of_devDat rfl) (.stuck rfl)) rfl

/-- The stop cell: data is released, and both lines are high as CLK rises (R112 to R116). -/
theorem sends_stopCell :
    (s.sending b .wrP0 8 8 (frameParity b) true).SendsCell s.hist true (s.sent b) :=
  sendsCell_of_settles hl
    (m := { s.sending b .wrAck 8 8 (frameParity b) false with datCtl := .inputPullup }) hl
    (.action rfl (State.not_contended_of_devDat rfl)
      (.action rfl rfl (.action rfl rfl (.stuck rfl))))
    (.action rfl rfl (.action rfl rfl (.stuck rfl))) rfl

end

/-! ### The cells of the frame, pulse by pulse -/

/-- The clock pulses of the reference reception (R119). -/
def clockPulses (n : Nat) : List (Level × Level) :=
  (List.replicate n [(false, true), (true, true)]).flatten

theorem clockPulses_succ (n : Nat) :
    clockPulses (n + 1) = clockPulses n ++ [(false, true), (true, true)] := by
  simp [clockPulses, List.replicate_succ']

theorem length_clockPulses (n : Nat) : (clockPulses n).length = 2 * n := by
  induction n with
  | zero => rfl
  | succ n ih => rw [clockPulses_succ, List.length_append, ih]; rfl

/-- Pulse by pulse the cells are sent, with the history at `h` just after every rising edge. -/
inductive State.Sends (h : List Record) (x : State) : List Level → State → Prop where
  | nil : Sends h x [] x
  | snoc {cells : List Level} {y z : State} {v : Level} (hs : Sends h x cells y)
      (hv : y.SendsCell h v z) : Sends h x (cells ++ [v]) z

/-- The moves up to the rising edge of pulse `k`. -/
def movesToEdge (k : Nat) : List Move :=
  keepUp (clockPulses k ++ [(false, true)]) ++ [.device true true]

theorem keepUp_clockPulses_succ (n : Nat) :
    keepUp (clockPulses (n + 1)) = movesToEdge n ++ List.replicate keepUpGrants .engine := by
  rw [clockPulses_succ, movesToEdge, keepUp_append, keepUp_append]
  simp only [List.append_assoc]
  rfl

/-- The moves of `n` pulses go through the rising edge of each. -/
theorem keepUp_clockPulses_of_lt {k n : Nat} (h : k < n) :
    ∃ post, keepUp (clockPulses n) = movesToEdge k ++ post := by
  induction n with
  | zero => omega
  | succ n ih =>
    obtain hk | rfl := Nat.lt_succ_iff_lt_or_eq.mp h
    · obtain ⟨post, hpost⟩ := ih hk
      rw [clockPulses_succ, keepUp_append, hpost, List.append_assoc]
      exact ⟨_, rfl⟩
    · exact ⟨_, keepUp_clockPulses_succ k⟩

section
variable {h : List Record} {x y : State} {cells : List Level}

theorem State.Sends.takes (hs : x.Sends h cells y) :
    x.Takes (keepUp (clockPulses cells.length)) y := by
  induction hs with
  | nil => exact .nil x
  | snoc _ hv ih =>
    obtain ⟨m, hedge, -, -, -, hrest⟩ := hv
    rw [List.length_append, List.length_singleton, keepUp_clockPulses_succ, movesToEdge,
      keepUp_append, List.append_assoc (keepUp _)]
    exact (ih.append hedge).append hrest

/-- Just after the rising edge of its pulse, DAT carries the cell. -/
theorem State.Sends.edge (hs : x.Sends h cells y) {k : Nat} {v : Level} (hk : cells[k]? = some v) :
    ∃ t, x.Takes (movesToEdge k) t ∧ t.wireClk = true ∧ t.wireDat = v ∧ t.hist = h := by
  induction hs with
  | nil => cases hk
  | @snoc cells y z w hs hv ih =>
    obtain hlt | hge := Nat.lt_or_ge k cells.length
    · rw [List.getElem?_append_left hlt] at hk
      exact ih hk
    · obtain ⟨m, hedge, hclk, hdat, hhist, -⟩ := hv
      obtain ⟨hlt, -⟩ := List.getElem?_eq_some_iff.mp hk
      rw [List.length_append, List.length_singleton] at hlt
      obtain rfl : k = cells.length := by omega
      rw [List.getElem?_concat_length] at hk
      cases hk
      refine ⟨m, ?_, hclk, hdat, hhist⟩
      rw [movesToEdge, keepUp_append, List.append_assoc]
      exact hs.takes.append hedge

end

/-- The data cells, from WR_S0 on. -/
theorem sends_dataCells {s : State} (hl : s.live) (b : Byte) {k : Nat} (hk : k ≤ 8) :
    (s.atCell b 0).Sends s.hist ((List.range k).map fun i => b.getLsbD i) (s.atCell b k) := by
  induction k with
  | zero => exact .nil
  | succ k ih =>
    rw [List.range_succ, List.map_append, List.map_singleton]
    exact .snoc (ih (by omega)) (sends_dataCell hl b hk)

/-- The ten cells of the frame. -/
theorem sends_frame {s : State} (hl : s.live) (b : Byte) :
    (s.atCell b 0).Sends s.hist (dataCells b ++ [frameParity b, true]) (s.sent b) := by
  have hdata := sends_dataCells hl b (Nat.le_refl 8)
  have hall := (hdata.snoc (sends_parityCell hl b)).snoc (sends_stopCell hl b)
  rwa [List.append_assoc] at hall

/-! ### WRB -/

/-- WRB on the idle configured block, with both lines released by the Device, waits for the first clock
pulse (R105 to R107). -/
theorem takes_wrb {s : State} (hl : s.live) (hi : s.phase = .idle) (hv : s.cfgValid = true)
    (hc : s.contended = false) (hclk : s.devClk = true) (hdat : s.devDat = true) (b : Byte) :
    s.Takes (.caller (encode (.wrb b)) :: List.replicate keepUpGrants .engine) (s.atCell b 0) := by
  have hv' : ¬ s.cfgValid = false := by simp [hv]
  have hself : s.setDevice true true = s := by
    cases s
    cases hclk
    cases hdat
    rfl
  have harg : argLow (encode (.wrb b)) = b := argLow_packWord _ _ _
  have hword : s.Takes [.caller (encode (.wrb b))]
      ({ s.setDevice true true with shreg := b }.goto .wrRts) := by
    rw [hself]
    refine State.takes_caller fun ms => ?_
    rw [callerMove_wrb (s := s.withSched ms) hl hi hc (spells_encode (.wrb b)), harg]
    exact if_neg hv'
  have hset : ({ s.setDevice true true with shreg := b }.goto .wrRts).Settles (s.atCell b 0) :=
    .action rfl rfl (.action rfl rfl (.stuck rfl))
  exact hword.append (hset.takes_grants hl)

/-- The Device's acknowledgment, after the ten clock pulses (R119). -/
def devAck : List (Level × Level) := [(true, false), (false, false), (true, false), (true, true)]

theorem devRecv_eq : devRecv = clockPulses 10 ++ devAck := rfl

/-- Settles O60: the ten cells of the frame, edge by edge, and the state after the tenth pulse. -/
theorem wrbSendsFrame : Obligations.WrbSendsFrame := by
  unfold Obligations.WrbSendsFrame
  intro s b rest hl hi hv hc hclk hdat hs
  have hword := takes_wrb hl hi hv hc hclk hdat b
  have hframe := sends_frame hl b
  rw [devRecv_eq, keepUp_append] at hs
  constructor
  · intro k v hk
    obtain ⟨t, hedge, hwires⟩ := hframe.edge hk
    obtain ⟨hk10, -⟩ := List.getElem?_eq_some_iff.mp hk
    obtain ⟨post, hpost⟩ := keepUp_clockPulses_of_lt (n := 10) hk10
    have hrun := (hword.append hedge).run (rest := post ++ (keepUp devAck ++ rest)) (by
      rw [hs, hpost]
      simp only [List.append_assoc, List.cons_append])
    have hlen : (Move.caller (encode (.wrb b)) :: List.replicate keepUpGrants .engine ++
        movesToEdge k).length = 10 * (k + 1) + 1 := by
      simp [movesToEdge, length_keepUp, length_clockPulses, keepUpGrants]
      omega
    rw [hlen] at hrun
    exact ⟨_, hrun, hwires⟩
  · have hrun := (hword.append hframe.takes).run (rest := keepUp devAck ++ rest) (by
      rw [hs]
      simp only [List.append_assoc, List.cons_append]
      rfl)
    exact ⟨_, hrun, rfl, rfl, rfl, rfl, hl⟩

end Sys2Proof.Machine
end

section
/-! PROOFS. The stages of the Translator: normalization, the table read, the shift and CTRL stages
(41_translator R131 to R133, R137 to R140, R149, R152). -/

namespace Sys2Proof.Machine

/-! ### Normalization (R131, R132) -/

/-- `RCTRL_EXT` is beyond every device code (00 R10). -/
theorem rctrlExt_ge {cfg : Config} (hw : cfg.wf = true) : 256 ≤ cfg.rctrlExt := by
  obtain ⟨hoffset, -⟩ := Config.wf_iff.mp hw
  rw [Config.rctrlExt]
  omega

/-- `KPENTER_EXT` is beyond every device code (00 R10). -/
theorem kpenterExt_ge {cfg : Config} (hw : cfg.wf = true) : 256 ≤ cfg.kpenterExt := by
  obtain ⟨hoffset, -⟩ := Config.wf_iff.mp hw
  rw [Config.kpenterExt]
  omega

/-- The two extended events that are normalized differ as their codes do (00 R9). -/
theorem kpenterExt_eq_rctrlExt_iff {cfg : Config} :
    cfg.kpenterExt = cfg.rctrlExt ↔ cfg.lctrlCode = cfg.enterCode := by
  rw [Config.kpenterExt, Config.rctrlExt, ← BitVec.toNat_inj]
  omega

theorem normalizeEvent_of_ne {cfg : Config} {ev : Int} (hpress : ev ≠ cfg.rctrlExt)
    (hrelease : ev ≠ -cfg.rctrlExt) (henter : ev ≠ cfg.kpenterExt) : normalizeEvent cfg ev = ev := by
  rw [normalizeEvent, if_neg hpress, if_neg hrelease, if_neg henter]

theorem normalizeEvent_rctrlExt (cfg : Config) :
    normalizeEvent cfg cfg.rctrlExt = cfg.lctrlCode.toNat := if_pos rfl

section
variable {cfg : Config} (hw : cfg.wf = true)
include hw

theorem normalizeEvent_neg_rctrlExt :
    normalizeEvent cfg (-cfg.rctrlExt) = -(cfg.lctrlCode.toNat : Int) := by
  have hctrl := rctrlExt_ge hw
  rw [normalizeEvent, if_neg (show -cfg.rctrlExt ≠ cfg.rctrlExt by omega), if_pos rfl]

/-- With equal codes the event is the right CTRL press, which gives the same code. -/
theorem normalizeEvent_kpenterExt : normalizeEvent cfg cfg.kpenterExt = cfg.enterCode.toNat := by
  have hctrl := rctrlExt_ge hw
  have henter := kpenterExt_ge hw
  by_cases heq : cfg.kpenterExt = cfg.rctrlExt
  · rw [heq, normalizeEvent_rctrlExt, kpenterExt_eq_rctrlExt_iff.mp heq]
  · rw [normalizeEvent, if_neg heq, if_neg (show cfg.kpenterExt ≠ -cfg.rctrlExt by omega), if_pos rfl]

/-- A plain event is left as it is. -/
theorem normalizeEvent_of_natAbs_lt {ev : Int} (h : ev.natAbs < 256) : normalizeEvent cfg ev = ev := by
  have hctrl := rctrlExt_ge hw
  have henter := kpenterExt_ge hw
  exact normalizeEvent_of_ne (by omega) (by omega) (by omega)

theorem normalizeEvent_code (b : Byte) : normalizeEvent cfg b.toNat = b.toNat :=
  normalizeEvent_of_natAbs_lt hw b.isLt

theorem normalizeEvent_neg_code (b : Byte) : normalizeEvent cfg (-(b.toNat : Int)) = -(b.toNat : Int) :=
  normalizeEvent_of_natAbs_lt hw (by rw [Int.natAbs_neg]; exact b.isLt)

end

/-- XLAT reads its operand through normalization alone. -/
theorem exec_xlat_congr {s : State} {e e' : Int}
    (h : normalizeEvent s.cfg e = normalizeEvent s.cfg e') : exec (.xlat e) s = exec (.xlat e') s := by
  rw [exec_xlat, exec_xlat, h]

/-- Settles O18: an event and the code it is normalized to have one normal form. -/
theorem xlatNormalization : Obligations.XlatNormalization := by
  unfold Obligations.XlatNormalization
  refine ⟨fun s hw => ⟨exec_xlat_congr ?_, exec_xlat_congr ?_, exec_xlat_congr ?_⟩,
    fun _ _ => normalizeEvent_of_ne, rfl, rfl, rfl, rfl⟩
  · rw [normalizeEvent_rctrlExt, normalizeEvent_code hw]
  · rw [normalizeEvent_neg_rctrlExt hw, normalizeEvent_neg_code hw]
  · rw [normalizeEvent_kpenterExt hw, normalizeEvent_code hw]

/-! ### The table read (R133) -/

theorem readBaseEntry_of_beyond {cfg : Config} {k : Nat} (h : cfg.baseLen ≤ k) :
    readBaseEntry cfg k = none := by
  rw [readBaseEntry, romRead, List.getElem?_eq_none h, Option.bind_none]

/-! ### The shift and CTRL stages (R137 to R139) -/

theorem isLowercase_iff {c : Byte} : isLowercase c = true ↔ 0x61 ≤ c.toNat ∧ c.toNat ≤ 0x7A := by
  rw [isLowercase, Bool.and_eq_true, decide_eq_true_eq, decide_eq_true_eq]

theorem isLowercase_eq_false {c : Byte} (h : c.toNat < 0x61 ∨ 0x7A < c.toNat) :
    isLowercase c = false := by
  rw [Bool.eq_false_iff, Ne, isLowercase_iff]
  omega

section
variable {cfg : Config} (ctrl : Bool) {c : Byte}

theorem charResult_unshifted (c : Byte) :
    charResult cfg false ctrl c = .char (ctrlStage ctrl c) := rfl

theorem charResult_of_shiftStage {v : Byte} (h : shiftStage cfg c = some v) :
    charResult cfg true ctrl c = .char (ctrlStage ctrl v) := by
  simp [charResult, h]

theorem charResult_of_shiftStage_none (h : shiftStage cfg c = none) :
    charResult cfg true ctrl c = .noKey := by
  simp [charResult, h]

theorem shiftStage_of_lowercase (h : isLowercase c = true) : shiftStage cfg c = some (c &&& 0xDF) :=
  if_pos h

theorem shiftStage_of_index_outside (h : isLowercase c = false)
    (hi : shiftIndexOf cfg c < 0 ∨ (cfg.shiftLen : Int) ≤ shiftIndexOf cfg c) :
    shiftStage cfg c = none := by
  rw [shiftStage, h, if_neg Bool.false_ne_true, if_pos hi]

theorem shiftStage_of_index (h : isLowercase c = false) {i : Nat} {v : Byte}
    (hi : shiftIndexOf cfg c = (i : Int)) (hv : cfg.shiftTable[i]? = some v) :
    shiftStage cfg c = some v := by
  obtain ⟨hlt, -⟩ := List.getElem?_eq_some_iff.mp hv
  have hinside : ¬ ((i : Int) < 0 ∨ (cfg.shiftLen : Int) ≤ (i : Int)) := by
    rw [Config.shiftLen]
    omega
  rw [shiftStage, h, if_neg Bool.false_ne_true, hi, if_neg hinside, Int.toNat_natCast, romRead, hv]

end

/-- R149's formula is negative below 0x27. -/
theorem defaultShiftIndex_neg {c : Nat} (h : c < 0x27) : defaultShiftIndex c < 0 := by
  rw [defaultShiftIndex, if_neg (show ¬ 0x5B ≤ c by omega)]
  omega

/-- Settles O28: the character is no letter and its index is negative. -/
theorem shiftBelowRangeIsNoKey : Obligations.ShiftBelowRangeIsNoKey := by
  unfold Obligations.ShiftBelowRangeIsNoKey
  intro c ctrl hc
  refine charResult_of_shiftStage_none ctrl
    (shiftStage_of_index_outside (isLowercase_eq_false (by omega)) (.inl ?_))
  rw [shiftIndexOf_default]
  exact defaultShiftIndex_neg hc

end Sys2Proof.Machine
end

section
/-! PROOFS. XLAT as a function of the configuration, the flags and the operand, and what it does for each
entry and sign (41_translator R133 to R144, R153, R156, R157). -/

namespace Sys2Proof.Machine

/-! ### The effect of a key -/

/-- A modifier flag after a press or a release of a key with an entry (R134, R136, R141). -/
def flagAfter (m : Modifier) (ent : Entry) (pressed old : Bool) : Bool :=
  if ent = .modifier m then pressed else old

/-- The result of a press of a key with an entry (R135 to R140). -/
def pressResult (cfg : Config) (shift ctrl : Bool) : Entry → Result
  | .undef => .noKey
  | .char c => charResult cfg shift ctrl c
  | .modifier _ => .noKey

/-- The flags after a press or a release of a key with an entry, and the result. -/
def keyEffect (cfg : Config) (shift ctrl : Bool) (ent : Entry) (pressed : Bool) :
    (Bool × Bool) × Result :=
  ((flagAfter .shift ent pressed shift, flagAfter .ctrl ent pressed ctrl),
    if pressed then pressResult cfg shift ctrl ent else .noKey)

/-- The flags after XLAT and its result (R144). -/
def xlatEffect (cfg : Config) (shift ctrl : Bool) (ev : Int) : (Bool × Bool) × Result :=
  match readBaseEntry cfg (normalizeEvent cfg ev).natAbs with
  | none => ((shift, ctrl), .noKey)
  | some ent => keyEffect cfg shift ctrl ent (decide (0 ≤ normalizeEvent cfg ev))

/-- The state after XLAT with an effect: the two flags and `hist` are written, nothing else (R144). -/
def State.withXlatEffect (s : State) (x : (Bool × Bool) × Result) : State :=
  { s with modShift := x.1.1, modCtrl := x.1.2, hist := s.hist ++ [⟨.xlat, .result x.2⟩] }

/-- XLAT is accepted at idle and stays there. -/
theorem State.completeXlat_of_idle {s : State} (hi : s.phase = .idle) (r : Result) :
    s.completeXlat r = s.withXlatEffect ((s.modShift, s.modCtrl), r) := by
  cases s
  cases hi
  rfl

theorem State.releaseKey_of_idle {s : State} (hi : s.phase = .idle) (ent : Entry) :
    s.releaseKey ent = s.withXlatEffect (keyEffect s.cfg s.modShift s.modCtrl ent false) := by
  cases ent with
  | undef => exact State.completeXlat_of_idle hi _
  | char c => exact State.completeXlat_of_idle hi _
  | modifier m =>
    cases m with
    | shift => exact State.completeXlat_of_idle (s := s.setModifier .shift false) hi _
    | ctrl => exact State.completeXlat_of_idle (s := s.setModifier .ctrl false) hi _

theorem State.pressKey_of_idle {s : State} (hi : s.phase = .idle) (ent : Entry) :
    s.pressKey ent = s.withXlatEffect (keyEffect s.cfg s.modShift s.modCtrl ent true) := by
  cases ent with
  | undef => exact State.completeXlat_of_idle hi _
  | char c => exact State.completeXlat_of_idle hi _
  | modifier m =>
    cases m with
    | shift => exact State.completeXlat_of_idle (s := s.setModifier .shift true) hi _
    | ctrl => exact State.completeXlat_of_idle (s := s.setModifier .ctrl true) hi _

/-! ### XLAT on the idle block -/

section
variable {s : State} (hl : s.live) (hi : s.phase = .idle) {ev : Int}
include hl hi

theorem exec_xlat_of_beyond (h : s.cfg.baseLen ≤ (normalizeEvent s.cfg ev).natAbs) :
    exec (.xlat ev) s = .next (s.withXlatEffect ((s.modShift, s.modCtrl), .noKey)) := by
  rw [exec_xlat_idle hl hi, translateEvent_of_beyond h, State.completeXlat_of_idle hi]

theorem exec_xlat_of_release {ent : Entry} (he : normalizeEvent s.cfg ev < 0)
    (h : readBaseEntry s.cfg (normalizeEvent s.cfg ev).natAbs = some ent) :
    exec (.xlat ev) s =
      .next (s.withXlatEffect (keyEffect s.cfg s.modShift s.modCtrl ent false)) := by
  rw [exec_xlat_idle hl hi, translateEvent_of_entry h, if_pos he, State.releaseKey_of_idle hi]

theorem exec_xlat_of_press {ent : Entry} (he : 0 ≤ normalizeEvent s.cfg ev)
    (h : readBaseEntry s.cfg (normalizeEvent s.cfg ev).natAbs = some ent) :
    exec (.xlat ev) s =
      .next (s.withXlatEffect (keyEffect s.cfg s.modShift s.modCtrl ent true)) := by
  rw [exec_xlat_idle hl hi, translateEvent_of_entry h, if_neg (Int.not_lt.mpr he),
    State.pressKey_of_idle hi]

/-- XLAT is its effect: a well-formed table is read at every index below its length (R144, R159). -/
theorem exec_xlat_of_wf (hw : s.cfg.wf = true) (ev : Int) :
    exec (.xlat ev) s = .next (s.withXlatEffect (xlatEffect s.cfg s.modShift s.modCtrl ev)) := by
  by_cases hk : s.cfg.baseLen ≤ (normalizeEvent s.cfg ev).natAbs
  · rw [exec_xlat_of_beyond hl hi hk, xlatEffect, readBaseEntry_of_beyond hk]
  · obtain ⟨ent, hent⟩ := readBaseEntry_of_wf hw (Nat.lt_of_not_le hk)
    rw [xlatEffect, hent]
    by_cases he : 0 ≤ normalizeEvent s.cfg ev
    · simp only [exec_xlat_of_press hl hi he hent, he, decide_true]
    · simp only [exec_xlat_of_release hl hi (Int.not_le.mp he) hent, he, decide_false]

/-- An event beyond every device code that is not normalized is beyond the table (R153, R156). -/
theorem exec_xlat_of_large (hw : s.cfg.wf = true) (hlarge : 256 ≤ ev.natAbs)
    (hpress : ev ≠ s.cfg.rctrlExt) (hrelease : ev ≠ -s.cfg.rctrlExt) (henter : ev ≠ s.cfg.kpenterExt) :
    exec (.xlat ev) s = .next (s.withXlatEffect ((s.modShift, s.modCtrl), .noKey)) := by
  obtain ⟨-, -, -, hlen, -⟩ := Config.wf_iff.mp hw
  refine exec_xlat_of_beyond hl hi ?_
  rw [normalizeEvent_of_ne hpress hrelease henter]
  exact hlen.trans hlarge

end

/-- Settles O16: the function is `xlatEffect`. -/
theorem xlatCompletesFromFlagsAlone : Obligations.XlatCompletesFromFlagsAlone := by
  unfold Obligations.XlatCompletesFromFlagsAlone
  exact ⟨xlatEffect, fun ev _ hl hi hw => exec_xlat_of_wf hl hi hw ev⟩

/-- Settles O17, the range check. -/
theorem xlatRangeCheck : Obligations.XlatRangeCheck := by
  unfold Obligations.XlatRangeCheck
  exact fun _ _ hl hi hk => exec_xlat_of_beyond hl hi hk

/-- Settles O26, from R10's bounds on `BASE_LEN`. -/
theorem largeEventsGiveNoKey : Obligations.LargeEventsGiveNoKey := by
  unfold Obligations.LargeEventsGiveNoKey
  exact fun _ _ hl hi hw hlarge hpress hrelease henter =>
    exec_xlat_of_large hl hi hw hlarge hpress hrelease henter

/-- Settles O19: the event is large, and differs from the normalized ones by its sign or its code. -/
theorem keypadEnterReleaseIsNoKey : Obligations.KeypadEnterReleaseIsNoKey := by
  unfold Obligations.KeypadEnterReleaseIsNoKey
  intro s hl hi hw hne
  have hctrl := rctrlExt_ge hw
  have henter := kpenterExt_ge hw
  have hcodes : s.cfg.kpenterExt ≠ s.cfg.rctrlExt := mt kpenterExt_eq_rctrlExt_iff.mp hne
  exact exec_xlat_of_large hl hi hw (by omega) (by omega) (by omega) (by omega)

/-- Settles O20, from the effect of a release. -/
theorem xlatRelease : Obligations.XlatRelease := by
  unfold Obligations.XlatRelease
  exact fun _ _ _ hl hi he hent => exec_xlat_of_release hl hi he hent

/-- Settles O21: the effect of a press, at each entry that is no character. -/
theorem xlatPressWithoutCharacter : Obligations.XlatPressWithoutCharacter := by
  unfold Obligations.XlatPressWithoutCharacter
  intro ev s ent hl hi he hent
  have hpress := exec_xlat_of_press hl hi he hent
  refine ⟨?_, ?_, ?_⟩ <;> rintro rfl <;> exact hpress

/-- Settles O22: the effect of a press at a character, by the cases of the shift stage. -/
theorem xlatPressCharacter : Obligations.XlatPressCharacter := by
  unfold Obligations.XlatPressCharacter
  intro ev s c hl hi he hent
  have hpress : exec (.xlat ev) s = .next { s with hist := s.hist ++
      [⟨.xlat, .result (charResult s.cfg s.modShift s.modCtrl c)⟩] } :=
    exec_xlat_of_press hl hi he hent
  refine ⟨fun hs => ?plain, fun hs hlo hhi => ?letter, fun hs hc hindex => ?outside,
    fun hs hc i v hindex hv => ?lookup⟩ <;> rw [hpress, hs]
  case plain => rw [charResult_unshifted, ctrlStage]
  case letter =>
    rw [charResult_of_shiftStage _ (shiftStage_of_lowercase (isLowercase_iff.mpr ⟨hlo, hhi⟩)), ctrlStage]
  case outside =>
    rw [charResult_of_shiftStage_none _ (shiftStage_of_index_outside (isLowercase_eq_false hc) hindex)]
  case lookup =>
    rw [charResult_of_shiftStage _ (shiftStage_of_index (isLowercase_eq_false hc) hindex hv), ctrlStage]

/-- Settles O23: a raised fault appends no record, and a record of XLAT is sound. -/
theorem xlatCharactersSevenBit : Obligations.XlatCharactersSevenBit := by
  unfold Obligations.XlatCharactersSevenBit
  intro ev s t c hw h hhist
  rw [exec_xlat] at h
  obtain ⟨-, ⟨-, rfl⟩ | ⟨-, code, hcheck, -⟩ | ⟨-, -, hx⟩⟩ := accept_next_cases h
  · simp at hhist
  · cases hcheck
  · obtain ⟨shift, ctrl, r, rfl, hsound⟩ := translateEvent_next_eq hx
    obtain rfl : r = .char c := by simpa using hhist
    exact hsound hw

/-! ### The modifiers (R141, R142) -/

/-- The codes below `BASE_LEN` that the default table marks with a modifier. -/
def defaultMarks (m : Modifier) : List Nat :=
  (List.range 128).filter fun k => readBaseEntry Config.default k = some (.modifier m)

theorem defaultMarks_shift : defaultMarks .shift = [0x12, 0x59] := by decide

theorem defaultMarks_ctrl : defaultMarks .ctrl = [0x14] := by decide

theorem mem_defaultMarks_iff {m : Modifier} {k : Nat} (hk : k < 128) :
    k ∈ defaultMarks m ↔ readBaseEntry Config.default k = some (.modifier m) := by
  rw [defaultMarks, List.mem_filter, List.mem_range, decide_eq_true_eq, and_iff_right hk]

/-- The marked codes of the default table (R141, R147). -/
theorem readBaseEntry_default_modifier {k : Nat} (hk : k < 128) :
    (readBaseEntry Config.default k = some (.modifier .shift) ↔ k = 0x12 ∨ k = 0x59) ∧
    (readBaseEntry Config.default k = some (.modifier .ctrl) ↔ k = 0x14) := by
  rw [← mem_defaultMarks_iff hk, ← mem_defaultMarks_iff hk, defaultMarks_shift, defaultMarks_ctrl,
    List.mem_pair, List.mem_singleton]
  exact ⟨Iff.rfl, Iff.rfl⟩

/-- Settles O24: the flags of `xlatEffect`, inside the table and beyond it, and the default's marks. -/
theorem modifierTransitions : Obligations.ModifierTransitions := by
  unfold Obligations.ModifierTransitions
  refine ⟨fun ev s hl hi hw => ⟨_, exec_xlat_of_wf hl hi hw ev, fun hk => ?beyond, fun ent hent => ?inside⟩,
    fun _ => readBaseEntry_default_modifier, normalizeEvent_rctrlExt _,
    normalizeEvent_neg_rctrlExt default_wf⟩
  case beyond =>
    rw [xlatEffect, readBaseEntry_of_beyond hk]
    exact ⟨rfl, rfl⟩
  case inside =>
    rw [xlatEffect, hent]
    exact ⟨rfl, rfl⟩

/-- The flag of a modifier. -/
def State.modifierFlag (s : State) : Modifier → Bool
  | .shift => s.modShift
  | .ctrl => s.modCtrl

/-- XLAT of a modifier key: a press sets the flag of its entry and a release clears it, and the block is
ready for the next command. -/
theorem exec_xlat_of_modifier {s : State} (hl : s.live) (hi : s.phase = .idle) {cfg : Config}
    (hcfg : s.cfg = cfg) {ev e : Int} {m : Modifier} (he : normalizeEvent cfg ev = e)
    (hent : readBaseEntry cfg e.natAbs = some (.modifier m)) :
    ∃ t, exec (.xlat ev) s = .next t ∧ (t.live ∧ t.phase = .idle ∧ t.cfg = cfg) ∧
      t.modifierFlag m = decide (0 ≤ e) := by
  subst hcfg he
  rw [exec_xlat_idle hl hi, translateEvent_of_entry hent]
  refine ⟨_, rfl, ?_⟩
  by_cases hneg : normalizeEvent s.cfg ev < 0
  · rw [if_pos hneg, decide_eq_false (Int.not_le.mpr hneg)]
    cases m <;> exact ⟨⟨hl, rfl, rfl⟩, rfl⟩
  · rw [if_neg hneg, decide_eq_true (Int.not_lt.mp hneg)]
    cases m <;> exact ⟨⟨hl, rfl, rfl⟩, rfl⟩

/-- Settles O25: each of the six commands writes the one flag its key marks. -/
theorem sharedModifierFlag : Obligations.SharedModifierFlag := by
  unfold Obligations.SharedModifierFlag
  intro s hl hi hcfg
  have hcode := normalizeEvent_code default_wf
  constructor
  · have hleft := (readBaseEntry_default_modifier (k := 0x12) (by decide)).1.mpr (.inl rfl)
    have hright := (readBaseEntry_default_modifier (k := 0x59) (by decide)).1.mpr (.inr rfl)
    obtain ⟨t, ht, ⟨hlt, hit, hct⟩, hft⟩ := exec_xlat_of_modifier hl hi hcfg (hcode 0x12) hleft
    obtain ⟨u, hu, ⟨hlu, hiu, hcu⟩, hfu⟩ := exec_xlat_of_modifier hlt hit hct (hcode 0x59) hright
    obtain ⟨v, hv, -, hfv⟩ :=
      exec_xlat_of_modifier hlu hiu hcu (normalizeEvent_neg_code default_wf 0x12) hleft
    exact ⟨t, u, v, ht, hu, hv, hft, hfu, hfv⟩
  · have hctrl := (readBaseEntry_default_modifier (k := 0x14) (by decide)).2.mpr rfl
    obtain ⟨t, ht, ⟨hlt, hit, hct⟩, hft⟩ := exec_xlat_of_modifier hl hi hcfg (hcode 0x14) hctrl
    obtain ⟨u, hu, ⟨hlu, hiu, hcu⟩, hfu⟩ :=
      exec_xlat_of_modifier hlt hit hct (normalizeEvent_rctrlExt _) hctrl
    obtain ⟨v, hv, -, hfv⟩ :=
      exec_xlat_of_modifier hlu hiu hcu (normalizeEvent_neg_rctrlExt default_wf) hctrl
    exact ⟨t, u, v, ht, hu, hv, hft, hfu, hfv⟩

end Sys2Proof.Machine
end

section
/-! PROOFS. Faults and refusals (60_exceptions R162 to R164, R175; 00_scope R10; 20_memory R53). -/

namespace Sys2Proof.Machine

/-! ### The guard of every agent (R164, R175) -/

theorem guarded_of_refused {s : State} (h : s.refused = true)
    (k : Host.Outcome State Fault Refusal) : guarded s k = .refused .illFormedConfiguration := by
  rw [guarded, if_pos h]

theorem guarded_of_fault {s : State} {code : FaultCode} (hr : s.refused = false)
    (hf : s.fault = some code) (k : Host.Outcome State Fault Refusal) :
    guarded s k = .fault (.halted code) := by
  simp [guarded, hr, hf]

/-- The check after a step has nothing to mark where no agent has a step. -/
theorem afterStep_guarded (s : State) (k : Host.Outcome State Fault Refusal) :
    afterStep (guarded s k) = guarded s (afterStep k) := by
  unfold guarded
  split
  · rfl
  · split <;> rfl

theorem exec_eq_guarded (i : Instr) (s : State) : ∃ k, exec i s = guarded s k := by
  cases i <;> exact ⟨_, rfl⟩

theorem callerMove_eq_guarded (w : Word) (s : State) : ∃ k, callerMove w s = guarded s k := by
  cases hd : decode w with
  | ok i =>
    obtain ⟨k, hk⟩ := exec_eq_guarded i s
    exact ⟨afterStep k, by rw [callerMove_of_ok hd, hk, afterStep_guarded]⟩
  | error e => exact ⟨_, by rw [callerMove, hd]; exact afterStep_guarded s _⟩

/-- Every step but a reset is guarded by the state's two marks. -/
theorem step_eq_guarded {s : State} (h : ∀ rest, s.sched ≠ .reset :: rest) :
    ∃ k, step s = guarded s k := by
  match hs : s.sched with
  | [] => exact ⟨_, step_nil hs⟩
  | .engine :: rest => exact ⟨_, step_engine (rest := rest) hs⟩
  | .device c d :: rest => exact ⟨_, step_device (rest := rest) hs⟩
  | .caller w :: rest =>
    obtain ⟨k, hk⟩ := callerMove_eq_guarded w { s with sched := rest }
    exact ⟨k, (step_caller hs).trans hk⟩
  | .reset :: rest => exact absurd hs (h rest)

/-- Settles O43: the guard answers the fault for every agent, and reset is not guarded. -/
theorem faultHalts : Obligations.FaultHalts := by
  unfold Obligations.FaultHalts
  intro s code hr hf
  refine ⟨fun i => ?_, fun hnr => ?_, fun rest hs => ⟨_, step_reset hs, rfl, rfl⟩⟩
  · obtain ⟨k, hk⟩ := exec_eq_guarded i s
    rw [hk, guarded_of_fault hr hf]
  · obtain ⟨k, hk⟩ := step_eq_guarded hnr
    rw [hk, guarded_of_fault hr hf]

/-! ### Refused configurations (R175; 00 R10) -/

/-- No step changes the refusal mark or the configuration (R175; 10 R45). -/
theorem step_keeps_mark_and_cfg {s t : State} (h : step s = .next t) :
    t.refused = s.refused ∧ t.cfg = s.cfg := by
  by_cases hreset : ∃ rest, s.sched = .reset :: rest
  · obtain ⟨rest, hs⟩ := hreset
    rw [step_reset hs] at h
    cases h
    exact ⟨rfl, rfl⟩
  · obtain ⟨-, -, hcfg, hrefused, -⟩ := elementWriters s t h (not_exists.mp hreset)
    exact ⟨hrefused, hcfg⟩

/-- The bytes a well-formed base table may hold (30 R75). -/
theorem ofRom_isSome_iff {b : Byte} : (Entry.ofRom b).isSome = true ↔
    b = 0x00 ∨ (0x01 ≤ b.toNat ∧ b.toNat ≤ 0x7F) ∨ b = 0x81 ∨ b = 0x82 := by
  rw [Option.isSome_iff_ne_none, Ne, ofRom_eq_none_iff]
  bv_omega

/-- The examples of R175. -/
theorem wf_eq_false_of_example {cfg : Config} (h : cfg.extendOffset < 256 ∨ 0x80 ∈ cfg.baseTable ∨
    ∃ b ∈ cfg.shiftTable, 0x7F < b.toNat) : cfg.wf = false := by
  obtain hoffset | hbase | ⟨b, hb, hlarge⟩ := h
  · refine Bool.eq_false_iff.mpr fun hw => ?_
    obtain ⟨hge, -⟩ := Config.wf_iff.mp hw
    exact absurd hge (Int.not_le.mpr hoffset)
  · exact wf_eq_false_of_reserved hbase (by decide)
  · exact Bool.eq_false_iff.mpr fun hw => absurd (shiftTable_le_of_wf hw hb) (Nat.not_le.mpr hlarge)

/-- Settles O44: the guard refuses every agent, and the conditions of R10 are those of `Config.wf`, with
the forms of R75 for a base entry. -/
theorem illFormedConfigurationRefused : Obligations.IllFormedConfigurationRefused := by
  unfold Obligations.IllFormedConfigurationRefused
  refine ⟨?mark, ?halts, fun _ _ => step_keeps_mark_and_cfg, fun _ => wf_eq_false_of_example,
    ?conditions⟩
  case mark =>
    intro cfg c d
    rw [State.launch_refused, Bool.not_eq_true']
  case halts =>
    intro s hr
    refine ⟨fun i => ?_, fun hnr => ?_⟩
    · obtain ⟨k, hk⟩ := exec_eq_guarded i s
      rw [hk, guarded_of_refused hr]
    · obtain ⟨k, hk⟩ := step_eq_guarded hnr
      rw [hk, guarded_of_refused hr]
  case conditions =>
    intro cfg
    simp only [Config.wf_iff, ofRom_isSome_iff, Config.baseLen, Config.shiftLen, Nat.not_le, and_assoc]

/-! ### Who raises F_CONTENTION (R162, R163; 20 R53) -/

/-- The check raises F_CONTENTION, where no mark was set, exactly on lines that contend. -/
theorem State.contended_of_checkContention_fault {s : State} (hf : s.fault = none)
    (h : s.checkContention.fault = some .contention) : s.contended = true := by
  by_contra hc
  rw [State.checkContention_of_not_contended (Bool.eq_false_iff.mpr hc), hf] at h
  cases h

@[simp] theorem State.checkContention_contended (s : State) :
    s.checkContention.contended = s.contended := by simp [State.contended]

/-- The Engine drives data high only in WR_PUT and WR_PAR: WR_RTS claims it at 0, and every other phase
leaves it as it is or releases it (40 R106, R109, R111, R113). -/
theorem engineStep_contended {s t : State} (h : engineStep s = some t) (hs : s.contended = false)
    (ht : t.contended = true) : s.phase = .wrPut ∨ s.phase = .wrPar := by
  by_contra hp'
  obtain ⟨hput, hpar⟩ := not_or.mp hp'
  refine Bool.eq_false_iff.mp ?_ ht
  cases hp : s.phase <;> simp only [engineStep, hp, reduceCtorEq] at h
  case wrPut => exact absurd hp hput
  case wrPar => exact absurd hp hpar
  case reRel | wrRts | wrReld =>
    obtain rfl := Option.some.inj h
    rfl
  case rrBS | reInh | wrRelc | wrDly | wrInh =>
    obtain rfl := Option.some.inj h
    exact hs
  case rrT1 =>
    obtain ⟨-, rfl⟩ := waitUntil_eq_some.mp h
    obtain ⟨g, hd⟩ | ⟨e, -, hd⟩ := deliver_cases s s.shreg <;> rw [hd] <;> exact hs
  all_goals
    obtain ⟨-, rfl⟩ := waitUntil_eq_some.mp h
    exact hs

/-- An acceptance raises its own fault or none, and touches no line but for INIT, which releases data
(R163). -/
theorem step_caller_fault_ne_contention {s t : State} {w : Word} {rest : List Move} (hl : s.live)
    (hc : s.contended = false) (hs : s.sched = .caller w :: rest) (h : step s = .next t) :
    t.fault ≠ some .contention := by
  have hf : s.fault = none := hl.2
  rw [acceptanceInOrder s w rest hl hc hs] at h
  split_ifs at h
  case neg =>
    obtain ⟨_, _, _, rfl, -⟩ := translateEvent_next_eq h
    simp [hf]
  all_goals
    cases h
    simp [hf]

/-- Settles O42: of the steps a live state has, only those that write `dat_out` or `dev_dat` can leave
lines that contend. -/
theorem contentionRaisers : Obligations.ContentionRaisers := by
  unfold Obligations.ContentionRaisers
  intro s t hinv hl h hfault
  have hf : s.fault = none := hl.2
  have hc : s.contended = false := Bool.eq_false_iff.mpr fun hc => hinv.contention hc hf
  obtain ⟨-, rfl⟩ | ⟨-, hs, ⟨-, rfl⟩ | ⟨u, hu, rfl⟩⟩ | ⟨-, c, d, rest, hs, rfl⟩ |
    ⟨-, w, rest, hs, -⟩ := step_next_cases h
  case inl => cases hfault
  case inr.inl.inl => exact absurd (hf.symm.trans hfault) (by decide)
  case inr.inl.inr =>
    obtain ⟨-, huf⟩ := engineStep_live (s := s.popped) hl hu
    have huc := State.contended_of_checkContention_fault huf hfault
    exact ⟨(State.checkContention_contended u).trans huc, .inr ⟨hs, engineStep_contended (s := s.popped) hu hc huc⟩⟩
  case inr.inr.inl =>
    have hdc := State.contended_of_checkContention_fault (s := s.popped.setDevice c d) hf hfault
    exact ⟨(State.checkContention_contended _).trans hdc, .inl ⟨c, d, rest, hs⟩⟩
  case inr.inr.inr => exact absurd hfault (step_caller_fault_ne_contention hl hc hs h)

end Sys2Proof.Machine
end

section
/-! PROOFS. The end of a run (60_exceptions R166, R179). -/

namespace Sys2Proof.Machine

/-! ### Stuck states (R164, R166, R175) -/

/-- Refused, faulted or held: by itself the block makes no progress. -/
def State.Stuck (s : State) : Prop := s.refused = true ∨ s.fault ≠ none ∨ s.held = true

theorem State.held_of_idle {s : State} (h : s.phase = .idle) : s.held = false := by
  simp [State.held, h, Phase.waitsFor]

theorem State.Stuck.not_endsWell {s : State} (h : s.Stuck) (program : List Instr) :
    ¬ s.endsWell program := by
  rintro ⟨hr, hf, hi, -⟩
  obtain hr' | hf' | hh := h
  · exact absurd hr' (Bool.eq_false_iff.mp hr)
  · exact hf' hf
  · exact absurd hh (Bool.eq_false_iff.mp (State.held_of_idle hi))

/-- With no move to come a stuck state stutters, or has no step (log 3). -/
theorem State.Stuck.step_eq {s t : State} (h : s.Stuck) (hs : s.sched = [])
    (hstep : step s = .next t) : t = s := by
  rw [step_nil hs] at hstep
  obtain ⟨⟨hr, hf⟩, ⟨-, rfl⟩ | ⟨u, hu, -⟩⟩ := engineMove_next_cases hstep
  · rfl
  · obtain hr' | hf' | hh := h
    · exact absurd hr' (Bool.eq_false_iff.mp hr)
    · exact absurd hf hf'
    · rw [engineStep_of_held hh] at hu
      cases hu

theorem State.Stuck.runSteps_eq {s t : State} {n : Nat} (h : s.Stuck) (hs : s.sched = [])
    (hrun : runSteps n s = .next t) : t = s :=
  runSteps_invariant (P := (· = s)) (by rintro _ u rfl hu; exact h.step_eq hs hu) rfl hrun

/-! ### A program that ends well -/

theorem all_not_isCommand_iff {ms : List Move} :
    ms.all (fun m => !m.isCommand) = true ↔ ∀ w, .caller w ∉ ms :=
  ⟨fun h _ hw => absurd (List.all_eq_true.mp h _ hw) Bool.false_ne_true, all_not_isCommand⟩

/-- The word of INIT on the idle block, with two distinct pins that it may bind (40 R92, R95). -/
theorem takes_init {s : State} {clk dat : PinId} (hl : s.live) (hi : s.phase = .idle)
    (hne : clk ≠ dat) (hpins : s.cfgValid = true → (clk, dat) = (s.clkPin, s.datPin)) :
    s.Takes [.caller (encode (.init clk dat))] (s.afterInit clk dat) :=
  State.takes_caller fun ms => by
    rw [callerMove_of_ok (encodeThenDecode (.init clk dat) rfl),
      exec_init_of_ne (s := s.withSched ms) hl hi hne hpins]
    exact afterStep_of_not_contended rfl

/-- The word of XLAT on the idle block of a well-formed configuration (41 R144, R159). -/
theorem takes_xlat {s : State} {ev : Int} (hl : s.live) (hi : s.phase = .idle)
    (hc : s.contended = false) (hw : s.cfg.wf = true) (hev : eventInRange ev = true) :
    s.Takes [.caller (encode (.xlat ev))]
      (s.withXlatEffect (xlatEffect s.cfg s.modShift s.modCtrl ev)) :=
  State.takes_caller fun ms => by
    rw [callerMove_of_ok (encodeThenDecode (.xlat ev) hev),
      exec_xlat_of_wf (s := s.withSched ms) hl hi hw]
    exact afterStep_of_not_contended hc

/-- INIT and then XLAT, from the launch of a well-formed configuration. -/
theorem launch_init_xlat_endsWell {cfg : Config} (c d : Level) {clk dat : PinId} {ev : Int}
    (hw : cfg.wf = true) (hne : clk ≠ dat) (hev : eventInRange ev = true) :
    ∃ t, runSteps 2 { State.launch cfg c d with
        sched := [.caller (encode (.init clk dat)), .caller (encode (.xlat ev))] } = .next t ∧
      t.endsWell [.init clk dat, .xlat ev] := by
  have hr : (State.launch cfg c d).refused = false := by rw [State.launch_refused, hw, Bool.not_true]
  have hinit : (State.launch cfg c d).Takes _ ((State.launch cfg c d).afterInit clk dat) :=
    takes_init ⟨hr, rfl⟩ rfl hne fun hv => absurd hv Bool.false_ne_true
  have hxlat := takes_xlat (s := (State.launch cfg c d).afterInit clk dat) ⟨hr, rfl⟩ rfl rfl hw hev
  exact ⟨_, hinit.append hxlat [], hr, rfl, rfl, rfl, rfl⟩

/-- Settles O55: a stuck state with no move to come stays itself, and the program that ends well is
INIT and then XLAT. -/
theorem noEndWhileStuck : Obligations.NoEndWhileStuck := by
  unfold Obligations.NoEndWhileStuck
  refine ⟨?meaning, ?stuck, fun _ c d _ _ _ hw hne hev => launch_init_xlat_endsWell c d hw hne hev⟩
  case meaning =>
    intro s program
    rw [State.endsWell, all_not_isCommand_iff]
  case stuck =>
    intro s program n t hstuck hs hrun
    rw [State.Stuck.runSteps_eq hstuck hs hrun]
    exact State.Stuck.not_endsWell hstuck program

end Sys2Proof.Machine
end

section
/-! PROOFS. Reset (70_reset_and_hazards R180, R181; 10_state R44). -/

namespace Sys2Proof.Machine

/-- Settles O45: a reset move answers the reset event, at any mark and in any phase; what it sets and what
it leaves are the lemmas of `resetEvent`. -/
theorem resetStep : Obligations.ResetStep := by
  unfold Obligations.ResetStep
  intro s rest hs
  refine ⟨_, step_reset hs, ?_⟩
  simp

/-- The host drives neither line while its pins are unconfigured (20 R49). -/
theorem State.host_released_of_unconf {s : State} (hclk : s.clkCtl = .unconf)
    (hdat : s.datCtl = .unconf) : s.hostClk = true ∧ s.hostDat = true := by
  constructor
  · refine Bool.eq_true_of_not_eq_false fun hlow => ?_
    simp [State.hostClk_eq_false.mp hlow] at hclk
  · exact State.hostDat_of_ne_output (by simp [hdat])

/-- Settles O46: the elements read off the reset state, both lines are released by its unconfigured pins,
and it is a launch because the default configuration is well formed. -/
theorem resetValues : Obligations.ResetValues := by
  unfold Obligations.ResetValues
  obtain ⟨hclk, hdat⟩ := State.host_released_of_unconf (s := State.reset) rfl rfl
  exact ⟨rfl, rfl, rfl, rfl, rfl, rfl, rfl, rfl, rfl, rfl, hclk, hdat, State.reset_eq_launch⟩

end Sys2Proof.Machine
end
